-- ==== Sys2Proof/Word.lean ====
section
/-!
DEFINITION. The words of the part: bytes, nibbles, commit numbers, and the small index types
for stations, pools and slots (spec/00_scope.md, Table 2).
-/
namespace Sys2Proof

/-- A byte of the register window or of a bus record. -/
abbrev Byte := BitVec 8

/-- A nibble, the unit of data on D0–D3 (R181). -/
abbrev Nibble := BitVec 4

/-- A commit number, a 32-bit serial number that wraps (R20). -/
abbrev CommitNo := BitVec 32

/-- A digest or fingerprint (R14, R17). -/
abbrev Digest := BitVec 32

/-- A station number 0–7. -/
abbrev StationNo := Fin 8

/-- A pool number 0–7. -/
abbrev PoolNo := Fin 8

/-- A slot number 0–63. -/
abbrev SlotNo := Fin 64

/-- An address of the register window, 00h–7Fh. -/
abbrev Addr := BitVec 7

end Sys2Proof
end

