-- ==== Sys2Proof/Syntax.lean ====
section
/-!
DEFINITION. The commands of the block: one constructor for each row of spec/opcode_table.json,
with the operands that the row's rule reads from outside the station.
-/
namespace Sys2Proof

/-- What reaches the SPI target port with no row of its own (R179; log entry 5). -/
inductive SpiEvent where
  /-- CS is asserted: a frame begins. -/
  | select
  /-- The next byte of the frame in progress: the command byte, then the data bytes at the current
  address. -/
  | byte
  /-- A data byte of a write frame at an address. -/
  | write (addr : Addr)
  /-- A data byte of a read frame at an address. -/
  | read (addr : Addr)
  deriving DecidableEq, Repr

/-- A command. `high` picks the byte of a two-byte register: false the lower address. -/
inductive Instr where
  /-- PIN_RESET (R60): power-on, or RESET held low. -/
  | pinReset
  /-- RESET_RELEASE (R101): `straps` are SID2–SID0 as sampled, SID2 the most significant. -/
  | resetRelease (straps : BitVec 3)
  /-- LOCK_GAIN (R57). -/
  | lockGain
  /-- LOCK_LOSS (R58). -/
  | lockLoss
  /-- QUIET_BUS (R59). -/
  | quietBus
  /-- START (R108): 01h written to CONTROL. -/
  | start
  /-- LEAVE (R109): 02h written to CONTROL. -/
  | leave
  /-- WITHDRAW (R150): 03h written to CONTROL. -/
  | withdraw
  /-- REINIT (R110): 04h written to CONTROL. -/
  | reinit
  /-- CONTROL_OTHER (R107): a value that names no command written to CONTROL. -/
  | controlOther (value : Byte)
  /-- SITE_WRITE (R102): a byte written at 06h, or at 07h when `high`. -/
  | siteWrite (high : Bool) (value : Byte)
  /-- EVENTS_CLEAR (R173): a byte written at 0Ch, or at 0Dh when `high`. -/
  | eventsClear (high : Bool) (value : Byte)
  /-- EVMASK_WRITE (R174): a byte written at 0Eh, or at 0Fh when `high`. -/
  | evmaskWrite (high : Bool) (value : Byte)
  /-- VIEW_SEL (R161): a byte written at 15h. -/
  | viewSel (value : Byte)
  /-- FIND_GO (R165): a byte written at 1Ch; its value does not matter. -/
  | findGo (value : Byte)
  /-- REGISTER_WRITE (R179): a byte at an address with no row of its own, written, or moved in a
  read frame; also the assertion of CS and the bytes that lead to it (log entry 5). `value` is the
  byte on SDI, which a read frame ignores; with the assertion of CS none arrives yet. -/
  | registerWrite (event : SpiEvent) (value : Byte)
  /-- REQUEST_SUBMIT (R142): a byte written at REQ_PORT; the eighth of a request submits it. -/
  | requestSubmit (value : Byte)
  /-- COMPLETION_TAKE (R145): one byte read at COMP_PORT. -/
  | completionTake
  /-- NOTICE_TAKE (R170): one byte read at NOTICE_PORT. -/
  | noticeTake
  /-- VIEW_PORT_READ (R163): one byte read at VIEW_PORT. -/
  | viewPortRead
  /-- FIND_PORT_READ (R167): one byte read at FIND_PORT. -/
  | findPortRead
  /-- AUDIT_PORT_READ (R169): one byte read at AUDIT_PORT. -/
  | auditPortRead
  /-- EVENTS_READ (R172): one byte read at 0Ch, or at 0Dh when `high`. -/
  | eventsRead (high : Bool)
  /-- COMMIT_DIGEST_READ (R168): one byte read at 20h + `offset`. -/
  | commitDigestRead (offset : BitVec 3)
  /-- SPI_FRAME_END (R179): CS is released. -/
  | spiFrameEnd
  /-- ARBITRATION_ROUND (R64): `req` the REQ lines and `thr` the THR line as other stations drive
  them; `started` is none when no record starts, else the nibbles of the record received at its
  start, the kind and the sender among them (R80, R181). -/
  | arbitrationRound (req : BitVec 8) (thr : Bool) (started : Option (List Nibble))
  /-- PRI_CHANGE (R63): PRI as the other stations now drive it. -/
  | priChange (asserted : Bool)
  /-- TRANSFER_END (R67): FRM is released; `rest` are the nibbles received after those of the
  start, `mrs` says whether another station asserts MRS at this event (R78). -/
  | transferEnd (rest : List Nibble) (mrs : Bool)
  /-- CHECK_WINDOW_CLOSE (R72): the ACK lines as they stand at the close, and FLT as other
  stations drive it. -/
  | checkWindowClose (ack : BitVec 8) (flt : Bool)
  /-- MRS_RELEASE (R81): this station's restart interval ends. -/
  | mrsRelease
  /-- RESTART_EPISODE_BEGIN (R82): the first assertion of MRS on the line. -/
  | restartEpisodeBegin
  /-- RESTART_EPISODE_END (R83): MRS is released on the line. -/
  | restartEpisodeEnd
  /-- APPLICATION (R30). -/
  | application
  /-- SNAPSHOT_BUILD (R126). -/
  | snapshotBuild
  /-- VIEW_COPY (R54). -/
  | viewCopy
  /-- FIND_STEP (R166). -/
  | findStep
  /-- SYNC_TIMER_EXPIRY (R114). -/
  | syncTimerExpiry
  /-- RECORD_START_WITHOUT_ROUND (R80): another station begins a record where none may start;
  `started` are the nibbles received at its start. -/
  | recordStartWithoutRound (started : List Nibble)
  /-- ACK_OR_FLT_OUT_OF_WINDOW (R80): another station asserts an ACK line or FLT. -/
  | ackOrFltOutOfWindow
  deriving DecidableEq, Repr

end Sys2Proof
end

