-- ==== Sys2Proof/Config.lean ====
section
/-!
DEFINITION. The sizes and constants the spec fixes for every SC-8 (spec/00_scope.md, Tables 1
and 2; spec/10_register_window_and_formats.md, Table 39). The spec leaves no value of a command
open, so no free value stands here.
-/
namespace Sys2Proof.Config

/-- Open list: at most 4 records (R68). -/
def openListMax : Nat := 4
/-- Apply queue: at most 8 entries (R25, R26). -/
def applyQueueMax : Nat := 8
/-- THR is asserted from this occupancy of the apply queue on (R26). -/
def throttleAt : Nat := 5
/-- Local request queue: 8 requests (R143). -/
def lrqMax : Nat := 8
/-- Completion queue: 8 places (R144). -/
def completionMax : Nat := 8
/-- Digest history: 16 pairs (R18). -/
def historyMax : Nat := 16
/-- Sync list: at most 7 stations (R104). -/
def syncListMax : Nat := 7
/-- Non-FREE slots of one station: at most 16 (R10). -/
def quota : Nat := 16
/-- Matches of one FIND result: at most 8 (R166). -/
def findMax : Nat := 8
/-- The fault abort at which an own record is given up (R153). -/
def faultLimit : Nat := 2
/-- The consecutive restart abort at which an own record is given up (R154). -/
def restartLimit : Nat := 4
/-- The sync timer, in milliseconds (R140). -/
def syncTimerMs : Nat := 200
/-- The ref of the entry AUDIT (R138, R147). -/
def entryAuditRef : Byte := 0xFF#8
/-- IDENT: vendor, family, part, revision (Table 39). -/
def ident : List Byte := [0x4E#8, 0x5A#8, 0xC8#8, 0x01#8]
/-- The turn pointer's value after resets, lock gain and restart episodes (R65). -/
def turnReset : StationNo := 7

end Sys2Proof.Config
end

