-- ==== Sys2Proof/Machine/Bits.lean ====
section
/-!
DEFINITION. Byte order, bit fields, line sets and tables of fixed size: the helpers every other
file uses. Multi-byte quantities are least significant byte first (spec/00_scope.md, Conventions).
-/
namespace Sys2Proof.Machine

/-- A 16-bit quantity from its low and high byte. -/
def word16 (lo hi : Byte) : BitVec 16 := hi ++ lo

/-- A 32-bit quantity from its bytes, least significant first. -/
def word32 (b0 b1 b2 b3 : Byte) : BitVec 32 := b3 ++ b2 ++ b1 ++ b0

/-- The bytes of a 16-bit quantity, least significant first. -/
def bytes16 (x : BitVec 16) : List Byte := [x.extractLsb' 0 8, x.extractLsb' 8 8]

/-- The bytes of a 32-bit quantity, least significant first. -/
def bytes32 (x : BitVec 32) : List Byte :=
  [x.extractLsb' 0 8, x.extractLsb' 8 8, x.extractLsb' 16 8, x.extractLsb' 24 8]

/-- A byte from its two nibbles as they pass on D0–D3, the low nibble first (R181). -/
def byteOfNibbles (lo hi : Nibble) : Byte := hi ++ lo

/-- The whole bytes of a run of nibbles; a nibble left over makes no byte. -/
def bytesOfNibbles : List Nibble → List Byte
  | lo :: hi :: rest => byteOfNibbles lo hi :: bytesOfNibbles rest
  | _ => []

/-- The nibbles of a run of bytes, in the order they pass (R181). -/
def nibblesOfBytes : List Byte → List Nibble
  | [] => []
  | b :: rest => b.extractLsb' 0 4 :: b.extractLsb' 4 4 :: nibblesOfBytes rest

/-- The number a field of one byte carries when it is below `n`; none when it is out of range. -/
def finOfByte (n : Nat) (b : Byte) : Option (Fin n) :=
  if h : b.toNat < n then some ⟨b.toNat, h⟩ else none

/-- A small number as a byte. -/
def byteOfNat (n : Nat) : Byte := BitVec.ofNat 8 n

/-- One byte of a two-byte register: the high one when `high`. -/
def byteOf (high : Bool) (x : BitVec 16) : Byte :=
  if high then x.extractLsb' 8 8 else x.extractLsb' 0 8

/-- A two-byte register with one of its bytes replaced. -/
def replaceByte (high : Bool) (value : Byte) (x : BitVec 16) : BitVec 16 :=
  if high then value ++ x.extractLsb' 0 8 else x.extractLsb' 8 8 ++ value

/-- Whether the line of station `k` is asserted in a set of eight lines. -/
def lineOf (lines : BitVec 8) (k : StationNo) : Bool := lines.getLsbD k.val

/-- The set of lines in which only station `k`'s is asserted. -/
def onlyLine (k : StationNo) : BitVec 8 := 1#8 <<< k.val

/-- A table of fixed size from its entries. -/
def tab {α : Type} {n : Nat} (f : Fin n → α) : Vector α n := ⟨(List.ofFn f).toArray, by simp⟩

/-- A table with one entry replaced. -/
def put {α : Type} {n : Nat} (v : Vector α n) (i : Fin n) (x : α) : Vector α n :=
  v.set i.val x i.isLt

/-- The numbers 0 to n − 1 in ascending order. -/
def upTo (n : Nat) : List (Fin n) := List.ofFn (fun i : Fin n => i)

/-- A byte of a record, 00h beyond its length (R163, R167, R169, R170). -/
def byteAt (bytes : List Byte) (i : Nat) : Byte := bytes.getD i 0x00#8

/-- Sum of a natural number over the entries of a table. -/
def sumOver (n : Nat) (f : Fin n → Nat) : Nat := ((upTo n).map f).sum

/-- The number of entries for which a condition holds. -/
def countOver (n : Nat) (p : Fin n → Bool) : Nat := (upTo n).countP p

/-- Insertion of an element before the first one it goes ahead of. -/
def insertBefore {α : Type} (ahead : α → α → Bool) (x : α) : List α → List α
  | [] => [x]
  | y :: ys => if ahead x y then x :: y :: ys else y :: insertBefore ahead x ys

/-- A list put in the order `ahead`. -/
def orderBy {α : Type} (ahead : α → α → Bool) : List α → List α
  | [] => []
  | x :: xs => insertBefore ahead x (orderBy ahead xs)

end Sys2Proof.Machine
end

