-- ==== Sys2Proof/Machine/Crc.lean ====
section
/-!
DEFINITION. The two cyclic redundancy checks: the record CRC-16 (R93) and the fingerprint CRC-32
(R17).
-/
namespace Sys2Proof.Machine

/-- One bit of the record CRC: generator 1021h, most significant bit first (R93). -/
def crc16Bit (r : BitVec 16) : BitVec 16 := if r.msb then (r <<< 1) ^^^ 0x1021#16 else r <<< 1

/-- One byte of the record CRC. -/
def crc16Byte (r : BitVec 16) (b : Byte) : BitVec 16 := Nat.repeat crc16Bit 8 (r ^^^ (b ++ 0x00#8))

/-- The record CRC-16: preset FFFFh, final value not inverted (R93). -/
def crc16 (bytes : List Byte) : BitVec 16 := bytes.foldl crc16Byte 0xFFFF#16

/-- One bit of the fingerprint: generator 04C11DB7h reflected, least significant bit first (R17). -/
def crc32Bit (r : BitVec 32) : BitVec 32 :=
  if r.getLsbD 0 then (r >>> 1) ^^^ 0xEDB88320#32 else r >>> 1

/-- One byte of the fingerprint. -/
def crc32Byte (r : BitVec 32) (b : Byte) : BitVec 32 := Nat.repeat crc32Bit 8 (r ^^^ b.setWidth 32)

/-- The fingerprint CRC-32: preset FFFFFFFFh, final value inverted (R17). -/
def crc32 (bytes : List Byte) : BitVec 32 := ~~~ (bytes.foldl crc32Byte 0xFFFFFFFF#32)

end Sys2Proof.Machine
end

