-- ==== Sys2Proof/Machine/Types.lean ====
section
/-!
DEFINITION. The items the station's state is made of: claims and pools, bus records, requests and
completions, and the states of its blocks, each with the spec's own names.
-/
namespace Sys2Proof.Machine

/-! ### The replica (spec/01) -/

/-- State of a claim (Table 5). -/
inductive ClaimState where
  | held
  | waiting
  deriving DecidableEq, Repr

/-- The fields of a claim (R5, Table 5). -/
structure Claim where
  state : ClaimState
  holder : StationNo
  pool : PoolNo
  units : BitVec 16
  cls : Fin 4
  tag : Byte
  stamp : CommitNo
  heldStamp : Option CommitNo
  bumped : Bool
  deriving DecidableEq, Repr

/-- A pool record (R2, Table 4). The waiting count is a count, 0–64. -/
structure Pool where
  capacity : BitVec 16
  granted : BitVec 16
  waiting : Nat
  due : Bool
  deriving DecidableEq, Repr

/-- A pool record of an empty replica (R2). -/
def Pool.zero : Pool := ⟨0#16, 0#16, 0, false⟩

/-- The cause of a notice (R22). -/
inductive Cause where
  | admitted
  | bumped
  | ejected
  deriving DecidableEq, Repr

/-- A marked notice entry (R22, R24). -/
structure Notice where
  cause : Cause
  commit : CommitNo
  deriving DecidableEq, Repr

/-- The audit record of the latest disagreement (R45). -/
structure AuditRecord where
  sender : StationNo
  number : CommitNo
  ownDigest : Digest
  digest : Digest
  deriving DecidableEq, Repr

/-! ### Bus records (spec/04) -/

/-- A roster entry (R104). -/
inductive Presence where
  | absent
  | syncing
  | active
  deriving DecidableEq, Repr

/-- The roster: one entry for each station number (R104). -/
abbrev Roster := Vector Presence 8

/-- The eleven record kinds (Table 18). -/
inductive Kind where
  | join
  | leave
  | claim
  | release
  | trim
  | setcap
  | audit
  | snapHead
  | snapClaim
  | snapPool
  | snapEnd
  deriving DecidableEq, Repr

/-- What a record carries beside its sender: its kind's body, and the target where the kind is a
snapshot kind (R84; the other kinds carry target 0). -/
inductive Body where
  | join (site : BitVec 16)
  | leave
  | claim (pool : PoolNo) (units : BitVec 16) (cls : Fin 4) (wait : Bool) (tag : Byte)
  | release (slot : SlotNo) (tag : Byte)
  | trim (slot : SlotNo) (tag : Byte) (units : BitVec 16)
  | setcap (pool : PoolNo) (capacity : BitVec 16)
  | audit (number : CommitNo) (digest : Digest)
  | snapHead (target : StationNo) (number : CommitNo) (roster : Roster) (syncList : List StationNo)
  | snapClaim (target : StationNo) (slot : SlotNo) (claim : Claim)
  | snapPool (target : StationNo) (pool : PoolNo) (figures : Pool)
  | snapEnd (target : StationNo) (count : Nat)
  deriving DecidableEq, Repr

/-- A record whose form is right (R84). -/
structure Record where
  sender : StationNo
  body : Body
  deriving DecidableEq, Repr

/-! ### The bus unit (spec/03) -/

/-- What this station drives in the check window in progress (R70). With ACK it keeps the record
it read from the bytes received. -/
inductive Drive where
  | idle
  | ack (record : Record)
  | flt
  deriving DecidableEq, Repr

/-- A record of the open list: its bytes as received, whether it is this station's own, and
whether the freeze was in force here at its start (R68, R96). -/
structure OpenRecord where
  bytes : List Byte
  own : Bool
  frozen : Bool
  deriving DecidableEq, Repr

/-- The record in transfer: the winner of its round, the nibbles received so far, whether it is
own, the freeze note of its start, whether this station drives FRM and D0–D3 for it, and whether
this station has detected its start as a violation, so that it does not join the open list (R80). -/
structure Transfer where
  winner : StationNo
  received : List Nibble
  own : Bool
  frozen : Bool
  driving : Bool
  barred : Bool
  deriving DecidableEq, Repr

/-- Phase of the snapshot tracker (R98). -/
inductive TrackerPhase where
  | idle
  | loading
  deriving DecidableEq, Repr

/-- What one holder's received claims amount to in one pool (R98). -/
structure Tally where
  heldUnits : Nat
  waiting : Nat
  deriving DecidableEq, Repr

/-- The figures received for one pool, less the frees made since, as exact numbers (R98). -/
structure Figures where
  granted : Int
  waiting : Int
  deriving DecidableEq, Repr

/-- The snapshot tracker (R98). `tally` is indexed by pool, then by holder. -/
structure Tracker where
  phase : TrackerPhase
  lastSlot : Option SlotNo
  nextPool : Nat
  received : Nat
  tally : Vector (Vector Tally 8) 8
  figures : Vector (Option Figures) 8
  deriving DecidableEq, Repr

/-- The snapshot tracker in IDLE, and at the start of a snapshot but for its phase (R98). A SNAP-HEAD
sets all of it; in IDLE, after the resets, at OUTSIDE and at a SNAP-END, R98 gives the items beside
the phase no meaning and no value, and those here are the model's (DESIGN CHOICE, safe, log entry
29). -/
def Tracker.idle : Tracker :=
  ⟨.idle, none, 0, 0, Vector.replicate 8 (Vector.replicate 8 ⟨0, 0⟩), Vector.replicate 8 none⟩

/-- An apply entry (R28, Table 8). The drop set is listed in ascending order. -/
structure ApplyEntry where
  commit : CommitNo
  record : Record
  drop : List StationNo
  isVoid : Bool
  freezeAfter : Bool
  freezeEnded : Bool
  deriving DecidableEq, Repr

/-! ### The request unit (spec/07) -/

/-- What a request asks for (R141, R148). -/
inductive Demand where
  | claim (pool : PoolNo) (units : BitVec 16) (cls : Fin 4) (wait : Bool) (tag : Byte)
  | release (slot : SlotNo) (tag : Byte)
  | trim (slot : SlotNo) (tag : Byte) (units : BitVec 16)
  | setcap (pool : PoolNo) (capacity : BitVec 16)
  | audit
  deriving DecidableEq, Repr

/-- An accepted request (R141). -/
structure Request where
  ref : Byte
  demand : Demand
  deriving DecidableEq, Repr

/-- Outcomes of completions (R159). -/
inductive Outcome where
  | held
  | waiting
  | released
  | trimmed
  | capacitySet
  | audited
  | tooLarge
  | quota
  | full
  | busy
  | stale
  | range
  | void
  | failedBus
  | cancelled
  | format
  deriving DecidableEq, Repr

/-- The extra item of a completion (R159, R184). -/
inductive Extra where
  | none
  | claimState (state : ClaimState)
  | counts (bumped ejected : Nat)
  | distance (n : CommitNo)
  deriving DecidableEq, Repr

/-- A completion (R159). The kind is the byte of the request, as written for FORMAT. -/
structure Completion where
  ref : Byte
  kind : Byte
  outcome : Outcome
  slot : Option SlotNo
  extra : Extra
  commit : Option CommitNo
  deriving DecidableEq, Repr

/-- An entry of the outcome list (R152). -/
structure OutcomeEntry where
  commit : CommitNo
  kind : Byte
  ref : Byte
  slot : Option SlotNo
  deriving DecidableEq, Repr

/-- What an own record is (R147). `entry` marks the entry AUDIT. -/
inductive OwnWhat where
  | join
  | leave
  | ordinary (request : Request) (entry : Bool)
  | snapshot (body : Body)
  deriving DecidableEq, Repr

/-- Condition of an own record other than none and held (R146): chosen, or won and on the bus. -/
inductive OwnCond where
  | chosen
  | onBus
  deriving DecidableEq, Repr

/-- The own record (R146). `won` says that it has won at least once; `contents` are the bytes it
drove at its latest win (R149). -/
structure Own where
  what : OwnWhat
  cond : OwnCond
  won : Bool
  faults : Nat
  restarts : Nat
  contents : List Byte
  deriving DecidableEq, Repr

/-- A record that has just been chosen for the first time. -/
def Own.fresh (what : OwnWhat) : Own := ⟨what, .chosen, false, 0, 0, []⟩

/-- Phase of the donor's cursor (R124). -/
inductive CursorPhase where
  | idle
  | head
  | claims
  | pools
  | finish
  deriving DecidableEq, Repr

/-- The donor's cursor (R124). -/
structure Cursor where
  target : Option StationNo
  phase : CursorPhase
  nextSlot : Nat
  nextPool : Nat
  count : Nat
  deriving DecidableEq, Repr

/-- The cursor of a station that is not donor (R124). The resets give all of it; at the end of a
donation and at the entry into OUTSIDE R124 gives IDLE and target none, and next slot, next pool and
count 0 are the model's (DESIGN CHOICE, safe, log entry 28). -/
def Cursor.idle : Cursor := ⟨none, .idle, 0, 0, 0⟩

/-- The cursor at the start of a snapshot for `target` (R124). -/
def Cursor.headFor (target : Option StationNo) : Cursor := ⟨target, .head, 0, 0, 0⟩

/-! ### The station controller (spec/05) -/

/-- Station states (Table 28). -/
inductive StationState where
  | config
  | outside
  | joining
  | syncing
  | active
  | leaving
  deriving DecidableEq, Repr

/-- Phases of SYNCING (Table 28). -/
inductive Phase where
  | awaiting
  | loading
  deriving DecidableEq, Repr

/-- Leave reasons (Table 28). -/
inductive LeaveReason where
  | left
  | syncTimeout
  deriving DecidableEq, Repr

/-- Exit causes (Table 31). -/
inductive ExitCause where
  | none
  | left
  | dropped
  | lockLost
  | syncTimeout
  | joinFailed
  | noDonor
  deriving DecidableEq, Repr

/-- The sync timer (Table 28): stopped, or running with the time left as of its latest start. -/
inductive Timer where
  | stopped
  | running (msLeft : Nat)
  deriving DecidableEq, Repr

/-! ### The host port (spec/08, 09, 10) -/

/-- Source of the latest LASTCMD write (R177). -/
inductive CmdSource where
  | none
  | start
  | leave
  | withdraw
  | other
  | exit
  deriving DecidableEq, Repr

/-- LASTCMD (R177). -/
structure LastCmd where
  source : CmdSource
  accepted : Bool
  count : Nat
  deriving DecidableEq, Repr

/-- The eleven event flags (Table 35). -/
inductive Event where
  | completion
  | notice
  | active
  | outside
  | disagree
  | restart
  | overrun
  | lock
  | freeze
  | findDone
  | donation
  deriving DecidableEq, Repr

/-- The five filter registers of FIND (R164). -/
structure FindFilter where
  first : Byte
  last : Byte
  holder : Byte
  pool : Byte
  masks : Byte
  deriving DecidableEq, Repr

/-- Codes of a FIND result (R167). -/
inductive FindCode where
  | none
  | running
  | complete
  | full
  | yielded
  | emptyWindow
  deriving DecidableEq, Repr

/-- The FIND result record (R167). -/
structure FindResult where
  code : FindCode
  resume : Byte
  found : List SlotNo
  commit : CommitNo
  deriving DecidableEq, Repr

/-- A running FIND scan: its copy of the filter, the next slot, the matches so far, and the engine
commit counter of its first step once that is taken (R165, R166). -/
structure Scan where
  filter : FindFilter
  next : Nat
  found : List SlotNo
  commit : Option CommitNo
  deriving DecidableEq, Repr

/-- The SPI frame in progress: its direction and current address (R179). -/
structure Frame where
  read : Bool
  addr : Addr
  deriving DecidableEq, Repr

/-- A port's read latch and byte pointer within a frame. -/
structure PortRead (α : Type) where
  latch : α
  pointer : Nat
  deriving DecidableEq, Repr

end Sys2Proof.Machine
end

