-- ==== Sys2Proof/Machine/Records.lean ====
section
/-!
DEFINITION. The form of a record on the share bus: kind codes, lengths, bodies and the CRC-16
(R84, R93, R181, R182, Tables 43 and 44), written as a builder and as the form checks of R95.
-/
namespace Sys2Proof.Machine

/-- Kind codes (Table 43). -/
def Kind.code : Kind → Byte
  | .join => 0x01#8
  | .leave => 0x02#8
  | .claim => 0x03#8
  | .release => 0x04#8
  | .trim => 0x05#8
  | .setcap => 0x06#8
  | .audit => 0x07#8
  | .snapHead => 0x08#8
  | .snapClaim => 0x09#8
  | .snapPool => 0x0A#8
  | .snapEnd => 0x0B#8

/-- The eleven kinds. -/
def allKinds : List Kind :=
  [.join, .leave, .claim, .release, .trim, .setcap, .audit, .snapHead, .snapClaim, .snapPool,
   .snapEnd]

/-- The kind a code names, if any (R95). -/
def kindOfCode (code : Byte) : Option Kind := allKinds.find? (fun k => k.code == code)

/-- Ordinary kinds (R85). -/
def Kind.ordinary : Kind → Bool
  | .claim | .release | .trim | .setcap | .audit => true
  | .join | .leave | .snapHead | .snapClaim | .snapPool | .snapEnd => false

/-- Exclusive kinds: the four snapshot kinds (R85). -/
def Kind.exclusive : Kind → Bool
  | .snapHead | .snapClaim | .snapPool | .snapEnd => true
  | .join | .leave | .claim | .release | .trim | .setcap | .audit => false

/-- Priority kinds: LEAVE, SETCAP and the snapshot kinds (R63, R85). -/
def Kind.priority (k : Kind) : Bool := k == .leave || k == .setcap || k.exclusive

/-- The kind of a body. -/
def Body.kind : Body → Kind
  | .join _ => .join
  | .leave => .leave
  | .claim _ _ _ _ _ => .claim
  | .release _ _ => .release
  | .trim _ _ _ => .trim
  | .setcap _ _ => .setcap
  | .audit _ _ => .audit
  | .snapHead _ _ _ _ => .snapHead
  | .snapClaim _ _ _ => .snapClaim
  | .snapPool _ _ _ => .snapPool
  | .snapEnd _ _ => .snapEnd

/-- The target of a snapshot record; none for the other kinds (R84). -/
def Body.target : Body → Option StationNo
  | .snapHead t _ _ _ => some t
  | .snapClaim t _ _ => some t
  | .snapPool t _ _ => some t
  | .snapEnd t _ => some t
  | .join _ | .leave | .claim _ _ _ _ _ | .release _ _ | .trim _ _ _ | .setcap _ _ | .audit _ _ =>
    none

/-- Whether a record is addressed to a station: a snapshot record with that target (R94). -/
def Record.addressedTo (r : Record) (me : StationNo) : Bool := r.body.target == some me

/-- The lengths some kind allows: 4 to 9, 11 to 18, and 21 (R181). -/
def allowedLength (n : Nat) : Bool := (4 ≤ n && n ≤ 9) || (11 ≤ n && n ≤ 18) || n == 21

/-! ### Codings of R182 -/

/-- Class and wait option in one byte (R182). -/
def classWaitByte (cls : Fin 4) (wait : Bool) : Byte :=
  (if wait then 0x1#4 else 0x0#4) ++ BitVec.ofNat 4 cls.val

/-- Class and wait option read from one byte; none when out of range (R95, R182). -/
def parseClassWait (b : Byte) : Option (Fin 4 × Bool) :=
  match finOfByte 4 (b &&& 0x0F#8) with
  | some cls =>
    if b >>> 4 == 0x00#8 then some (cls, false)
    else if b >>> 4 == 0x01#8 then some (cls, true)
    else none
  | none => none

/-- A flag as a byte (R182). -/
def flagByte (f : Bool) : Byte := if f then 0x01#8 else 0x00#8

/-- A flag read from a byte; none when out of range. -/
def parseFlag (b : Byte) : Option Bool :=
  if b == 0x00#8 then some false else if b == 0x01#8 then some true else none

/-- A claim state as a byte (R182). -/
def ClaimState.code : ClaimState → Byte
  | .held => 0x01#8
  | .waiting => 0x02#8

/-- A claim state read from a byte; none when out of range. -/
def parseClaimState (b : Byte) : Option ClaimState :=
  if b == 0x01#8 then some .held else if b == 0x02#8 then some .waiting else none

/-- Roster codes (R182). -/
def Presence.code : Presence → BitVec 2
  | .absent => 0#2
  | .syncing => 1#2
  | .active => 2#2

/-- A roster entry read from its code; code 3 is out of range. -/
def parsePresence (c : BitVec 2) : Option Presence :=
  if c == 0#2 then some .absent else if c == 1#2 then some .syncing
  else if c == 2#2 then some .active else none

/-- The two roster bytes: station k at bits 2(k mod 4)+1 to 2(k mod 4) of byte k div 4 (R182). -/
def rosterBytes (r : Roster) : List Byte :=
  [r[(3 : Fin 8)].code ++ r[(2 : Fin 8)].code ++ r[(1 : Fin 8)].code ++ r[(0 : Fin 8)].code,
   r[(7 : Fin 8)].code ++ r[(6 : Fin 8)].code ++ r[(5 : Fin 8)].code ++ r[(4 : Fin 8)].code]

/-- The four roster entries of one byte. -/
def parseRosterByte (b : Byte) : Option (Presence × Presence × Presence × Presence) :=
  match parsePresence (b.extractLsb' 0 2), parsePresence (b.extractLsb' 2 2),
        parsePresence (b.extractLsb' 4 2), parsePresence (b.extractLsb' 6 2) with
  | some p0, some p1, some p2, some p3 => some (p0, p1, p2, p3)
  | _, _, _, _ => none

/-- The roster of its two bytes. -/
def parseRoster (lo hi : Byte) : Option Roster :=
  match parseRosterByte lo, parseRosterByte hi with
  | some (p0, p1, p2, p3), some (p4, p5, p6, p7) => some #v[p0, p1, p2, p3, p4, p5, p6, p7]
  | _, _ => none

/-- The held-stamp field, 00000000h where the held-stamp is absent (R8). -/
def heldStampField (c : Claim) : CommitNo := c.heldStamp.getD 0#32

/-- Whether R8 makes the held-stamp present: the claim is HELD, or its bumped flag is set. -/
def heldStampPresent (state : ClaimState) (bumped : Bool) : Bool := state == .held || bumped

/-- The SNAP-CLAIM body, offsets 2 to 18 (Table 44); also the canonical form's tail (R183). -/
def claimBody (slot : SlotNo) (c : Claim) : List Byte :=
  [byteOfNat slot.val, c.state.code, byteOfNat c.holder.val, byteOfNat c.pool.val] ++
  bytes16 c.units ++ [byteOfNat c.cls.val, c.tag] ++ bytes32 c.stamp ++
  bytes32 (heldStampField c) ++ [flagByte c.bumped]

/-- The SNAP-POOL body, offsets 2 to 8 (Table 44); also the canonical form's tail (R183). -/
def poolBody (p : PoolNo) (f : Pool) : List Byte :=
  [byteOfNat p.val] ++ bytes16 f.capacity ++ bytes16 f.granted ++
  [byteOfNat f.waiting, flagByte f.due]

/-- The body's bytes from offset 2 (Table 44). -/
def Body.bytes : Body → List Byte
  | .join site => bytes16 site
  | .leave => []
  | .claim pool units cls wait tag =>
    [byteOfNat pool.val] ++ bytes16 units ++ [classWaitByte cls wait, tag]
  | .release slot tag => [byteOfNat slot.val, tag]
  | .trim slot tag units => [byteOfNat slot.val, tag] ++ bytes16 units
  | .setcap pool capacity => [byteOfNat pool.val] ++ bytes16 capacity
  | .audit number digest => bytes32 number ++ bytes32 digest
  | .snapHead _ number roster list =>
    bytes32 number ++ rosterBytes roster ++ [byteOfNat list.length] ++
    list.map (fun k => byteOfNat k.val)
  | .snapClaim _ slot c => claimBody slot c
  | .snapPool _ p f => poolBody p f
  | .snapEnd _ count => [byteOfNat count]

/-- The target-and-sender byte: the target in bits 7–4, the sender in bits 3–0 (R181). -/
def targetSenderByte (r : Record) : Byte :=
  BitVec.ofNat 4 ((r.body.target.map (·.val)).getD 0) ++ BitVec.ofNat 4 r.sender.val

/-- The record's bytes as they pass on the bus, its CRC low byte first (R93, R181). -/
def Record.bytes (r : Record) : List Byte :=
  let covered := [r.body.kind.code, targetSenderByte r] ++ r.body.bytes
  covered ++ bytes16 (crc16 covered)

/-! ### The form checks (R95, Table 23) -/

/-- The sync-list entries of a SNAP-HEAD: each below 8, none twice. -/
def parseStations : List Byte → Option (List StationNo)
  | [] => some []
  | b :: rest =>
    match finOfByte 8 b, parseStations rest with
    | some k, some ks => if ks.contains k then none else some (k :: ks)
    | _, _ => none

/-- A SNAP-CLAIM body. -/
def parseClaimBody : List Byte → Option (SlotNo × Claim)
  | [s, st, h, p, u0, u1, k, tag, a0, a1, a2, a3, b0, b1, b2, b3, bu] =>
    match finOfByte 64 s, parseClaimState st, finOfByte 8 h, finOfByte 8 p, finOfByte 4 k,
          parseFlag bu with
    | some slot, some state, some holder, some pool, some cls, some bumped =>
      let units := word16 u0 u1
      let field := word32 b0 b1 b2 b3
      let present := heldStampPresent state bumped
      if units == 0#16 then none
      else if !present && field != 0#32 then none
      else some (slot, ⟨state, holder, pool, units, cls, tag, word32 a0 a1 a2 a3,
        if present then some field else none, bumped⟩)
    | _, _, _, _, _, _ => none
  | _ => none

/-- A SNAP-POOL body. -/
def parsePoolBody : List Byte → Option (PoolNo × Pool)
  | [p, c0, c1, g0, g1, w, d] =>
    match finOfByte 8 p, parseFlag d with
    | some pool, some due =>
      let capacity := word16 c0 c1
      let granted := word16 g0 g1
      if capacity.toNat < granted.toNat then none
      else if 64 < w.toNat then none
      else some (pool, ⟨capacity, granted, w.toNat, due⟩)
    | _, _ => none
  | _ => none

/-- A SNAP-HEAD body: the number of entries must be the count it declares, at most 7. -/
def parseHeadBody (target : StationNo) : List Byte → Option Body
  | e0 :: e1 :: e2 :: e3 :: r0 :: r1 :: n :: entries =>
    match parseRoster r0 r1, parseStations entries with
    | some roster, some list =>
      if 7 < n.toNat then none
      else if entries.length ≠ n.toNat then none
      else some (.snapHead target (word32 e0 e1 e2 e3) roster list)
    | _, _ => none
  | _ => none

/-- The body of each kind from its bytes; none when its length or a field is out of range. For the
kinds that are not snapshot kinds the target must be 0 (Table 23). -/
def parseBody (k : Kind) (target : StationNo) (body : List Byte) : Option Body :=
  if !k.exclusive && target != 0 then none
  else match k with
  | .join => match body with
    | [a, b] => some (.join (word16 a b))
    | _ => none
  | .leave => match body with
    | [] => some .leave
    | _ => none
  | .claim => match body with
    | [p, u0, u1, cw, tag] =>
      match finOfByte 8 p, parseClassWait cw with
      | some pool, some (cls, wait) =>
        if word16 u0 u1 == 0#16 then none else some (.claim pool (word16 u0 u1) cls wait tag)
      | _, _ => none
    | _ => none
  | .release => match body with
    | [s, tag] => (finOfByte 64 s).map (fun slot => .release slot tag)
    | _ => none
  | .trim => match body with
    | [s, tag, u0, u1] =>
      if word16 u0 u1 == 0#16 then none
      else (finOfByte 64 s).map (fun slot => .trim slot tag (word16 u0 u1))
    | _ => none
  | .setcap => match body with
    | [p, c0, c1] => (finOfByte 8 p).map (fun pool => .setcap pool (word16 c0 c1))
    | _ => none
  | .audit => match body with
    | [a0, a1, a2, a3, d0, d1, d2, d3] => some (.audit (word32 a0 a1 a2 a3) (word32 d0 d1 d2 d3))
    | _ => none
  | .snapHead => parseHeadBody target body
  | .snapClaim => (parseClaimBody body).map (fun (slot, c) => .snapClaim target slot c)
  | .snapPool => (parsePoolBody body).map (fun (p, f) => .snapPool target p f)
  | .snapEnd => match body with
    | [n] => if 64 < n.toNat then none else some (.snapEnd target n.toNat)
    | _ => none

/-- The station number a nibble names, if it is below 8. -/
def stationOfNibble (x : Nibble) : Option StationNo :=
  if h : x.toNat < 8 then some ⟨x.toNat, h⟩ else none

/-- The record that bytes received carry, when they pass every form check of R95: CRC, kind,
length and field ranges. A sender field of 8 or above names no station and gives no record. -/
def parseRecord (bytes : List Byte) : Option Record :=
  let covered := bytes.take (bytes.length - 2)
  let crc := bytes.drop (bytes.length - 2)
  if crc ≠ bytes16 (crc16 covered) then none
  else match covered with
  | kind :: ts :: body =>
    match kindOfCode kind, stationOfNibble (ts.extractLsb' 4 4),
          stationOfNibble (ts.extractLsb' 0 4) with
    | some k, some target, some sender => (parseBody k target body).map (fun b => ⟨sender, b⟩)
    | _, _, _ => none
  | _ => none

end Sys2Proof.Machine
end

