-- ==== Sys2Proof/Machine/Digest.lean ====
section
/-!
DEFINITION. Canonical forms, fingerprints and the replica digest (R14 to R17, R183).
-/
namespace Sys2Proof.Machine

/-- Canonical form of a claim: 00h, then the SNAP-CLAIM body (R183). -/
def claimForm (slot : SlotNo) (c : Claim) : List Byte := 0x00#8 :: claimBody slot c

/-- Canonical form of a pool record: 00h, then the SNAP-POOL body (R183). -/
def poolForm (p : PoolNo) (f : Pool) : List Byte := 0x00#8 :: poolBody p f

/-- What a slot adds to the digest: its claim's fingerprint, nothing when it is FREE (R14). -/
def slotPrint (slot : SlotNo) : Option Claim → Digest
  | some c => crc32 (claimForm slot c)
  | none => 0#32

/-- What a pool record adds to the digest (R14). -/
def poolPrint (p : PoolNo) (f : Pool) : Digest := crc32 (poolForm p f)

/-- The replica digest: the sum modulo 2^32 of the fingerprints of the eight pool records and of
every non-FREE claim (R14). -/
def digestOf (pools : Vector Pool 8) (slots : Vector (Option Claim) 64) : Digest :=
  ((upTo 8).map (fun p => poolPrint p pools[p])).sum +
  ((upTo 64).map (fun i => slotPrint i slots[i])).sum

/-- The pool table of an empty replica (R2). -/
def emptyPools : Vector Pool 8 := Vector.replicate 8 Pool.zero

/-- The claim table of an empty replica (R5). -/
def emptySlots : Vector (Option Claim) 64 := Vector.replicate 64 none

/-- The digest of the empty tables (R14). -/
def emptyDigest : Digest := digestOf emptyPools emptySlots

end Sys2Proof.Machine
end

