-- ==== Sys2Proof/Machine/State.lean ====
section
/-!
DEFINITION. The state of one SC-8, block by block (INVENTORY.md, State), the queue of commands
that wait for it, and the machine right after reset. All of it is plain data.
-/
namespace Sys2Proof.Machine

/-- Reasons a step stops with a fault: none. Whatever arrives changes State, and nothing in the
spec stops the block, so this type has no constructor (safe: no run ends where the part goes on). -/
inductive Fault
  deriving DecidableEq, Repr

/-- Reasons a command has no meaning. -/
inductive Refusal where
  /-- The command has no meaning in this model yet. Raised by an arm of `exec` alone; no arm raises
  it. Safe: nothing can be proved of a state after it. -/
  | notModelled (mnemonic : String)
  deriving DecidableEq, Repr

/-- The bus unit (spec/03, spec/04, spec/05). -/
structure BusUnit where
  /-- The strapped station number (R101). -/
  station : StationNo
  /-- LOCKED (R57). -/
  locked : Bool
  /-- In step (R59). -/
  inStep : Bool
  /-- The turn pointer (R65). -/
  turn : StationNo
  /-- The open list, oldest at the head (R68). -/
  openList : List OpenRecord
  /-- The record in transfer, if any (R67). -/
  inTransfer : Option Transfer
  /-- The check window in progress, as this station drives in it (R69, R70). -/
  window : Option Drive
  /-- The bus-side commit counter (R72). -/
  commit : CommitNo
  /-- The roster (R104). -/
  roster : Roster
  /-- The sync list, head first (R104). -/
  syncList : List StationNo
  /-- The join commit number (R104). -/
  joinCommit : CommitNo
  /-- A restart episode is in progress (R82). -/
  restart : Bool
  /-- This station asserts MRS (R81). -/
  mrsDrive : Bool
  /-- PRI as other stations drive it (R62, R63). -/
  priIn : Bool
  /-- The snapshot tracker (R98). -/
  tracker : Tracker
  /-- The apply queue, oldest at the head (R25). -/
  applyQueue : List ApplyEntry
  deriving DecidableEq, Repr

/-- The replica engine (spec/01, spec/02, spec/06, spec/08). -/
structure Engine where
  /-- The pool table (R2). -/
  pools : Vector Pool 8
  /-- The claim table (R5); none is FREE. -/
  slots : Vector (Option Claim) 64
  /-- The replica digest (R14). -/
  digest : Digest
  /-- The digest history, oldest first (R18). -/
  history : List (CommitNo × Digest)
  /-- The digest history is running (R18). -/
  historyRunning : Bool
  /-- The engine commit counter (R20). -/
  commit : CommitNo
  /-- The stale flag (R21). -/
  stale : Bool
  /-- The replica is current (R29). -/
  current : Bool
  /-- The horizon, 0–64 (R131). -/
  horizon : Nat
  /-- The pools installed since the latest SNAP-HEAD (R32); all of them when no snapshot is being
  received. -/
  installed : Vector Bool 8
  /-- The notice table (R22); none is unmarked. -/
  notices : Vector (Option Notice) 64
  /-- The audit record, none while its valid indication is clear (R45, R169). -/
  auditRecord : Option AuditRecord
  /-- The pending view selection (R161). -/
  viewPending : Option Byte
  /-- The view buffer: the bytes of one item (R162). -/
  viewBuffer : List Byte
  /-- The running FIND scan (R165). -/
  scan : Option Scan
  /-- The FIND result record (R167). -/
  findResult : FindResult
  deriving DecidableEq, Repr

/-- The request unit (spec/06 R124, spec/07). -/
structure RequestUnit where
  /-- The local request queue (R143). -/
  lrq : List Request
  /-- The own record, chosen or on the bus (R146). -/
  own : Option Own
  /-- The held own record (R146). -/
  held : Option Own
  /-- The outcome list (R152). -/
  outcomes : List OutcomeEntry
  /-- The completion queue (R144). -/
  completions : List Completion
  /-- Reserved places of the completion queue (R144). -/
  reserved : Nat
  /-- An entry AUDIT is due (R147). -/
  auditDue : Bool
  /-- The donor's cursor (R124). -/
  cursor : Cursor
  deriving DecidableEq, Repr

/-- The station controller (Table 28). -/
structure Controller where
  /-- The station state. -/
  station : StationState
  /-- The phase, meaningful in SYNCING and while `phaseKept`. -/
  phase : Phase
  /-- In LEAVING: the phase of the SYNCING station that decided to leave still applies (R114). -/
  phaseKept : Bool
  /-- The leave reason, meaningful in LEAVING. -/
  leaveReason : LeaveReason
  /-- A LEAVE is held, meaningful in JOINING. -/
  leaveHeld : Bool
  /-- The exit cause (R118). -/
  exitCause : ExitCause
  /-- The sync timer (R140). -/
  syncTimer : Timer
  deriving DecidableEq, Repr

/-- The host port (spec/09, spec/10 and the port rules of spec/07 and spec/08). -/
structure HostPort where
  /-- The site code (R102). -/
  site : BitVec 16
  /-- The event flags at the positions of Table 42 (R171). -/
  events : BitVec 16
  /-- The event mask (R174). -/
  mask : BitVec 16
  /-- LASTCMD (R177). -/
  lastCmd : LastCmd
  /-- FIND_FROM, FIND_TO, FIND_HOLDER, FIND_POOL, FIND_MASKS (R164). -/
  find : FindFilter
  /-- CS is asserted: an SPI frame is in progress (R179). -/
  selected : Bool
  /-- Direction and current address of the frame in progress, from its command byte on (R179). -/
  frame : Option Frame
  /-- The byte last moved out on SDO; none while SDO is not driven (R179, R186). -/
  sdo : Option Byte
  /-- The bytes written at REQ_PORT so far; their number is the byte pointer (R141). -/
  requestBytes : List Byte
  /-- COMP_PORT's copy and pointer; none at the first byte (R145). -/
  compRead : Option (PortRead (Option Completion))
  /-- NOTICE_PORT's latch and pointer (R170). -/
  noticeRead : Option (PortRead (Option (SlotNo × Notice)))
  /-- VIEW_PORT's latch and pointer (R163). -/
  viewRead : Option (PortRead (List Byte))
  /-- FIND_PORT's latch and pointer (R167). -/
  findRead : Option (PortRead FindResult)
  /-- AUDIT_PORT's latch and pointer (R169). -/
  auditRead : Option (PortRead (Option AuditRecord))
  /-- The latch of EVENTS in this frame (R172). -/
  eventsLatch : Option (BitVec 16)
  /-- The latch of COMMIT and DIGEST in this frame (R168). -/
  commitLatch : Option (CommitNo × Digest)
  deriving DecidableEq, Repr

/-- One SC-8 station and the commands that wait for it, first in first out. -/
structure State where
  bus : BusUnit
  engine : Engine
  request : RequestUnit
  control : Controller
  host : HostPort
  pending : List Instr
  deriving DecidableEq, Repr

/-- The roster with every station ABSENT. -/
def Roster.allAbsent : Roster := Vector.replicate 8 .absent

/-- The bus unit after pin reset (R60, Table 14). -/
def BusUnit.reset : BusUnit where
  station := 0
  locked := false
  inStep := false
  turn := Config.turnReset
  openList := []
  inTransfer := none
  window := none
  commit := 0#32
  roster := Roster.allAbsent
  syncList := []
  joinCommit := 0#32
  restart := false
  mrsDrive := false
  priIn := false
  tracker := Tracker.idle
  applyQueue := []

/-- The FIND result record after reset (R165). -/
def FindResult.reset : FindResult := ⟨.none, 0x00#8, [], 0#32⟩

/-- The FIND filter registers after reset (R164, Table 39). -/
def FindFilter.reset : FindFilter := ⟨0x00#8, 0x3F#8, 0xFF#8, 0xFF#8, 0xF7#8⟩

/-- The replica engine after pin reset and soft reset (spec/01 as each rule gives; R52, R161). -/
def Engine.reset : Engine where
  pools := emptyPools
  slots := emptySlots
  digest := emptyDigest
  history := []
  historyRunning := false
  commit := 0#32
  stale := false
  current := false
  horizon := 64
  installed := Vector.replicate 8 true
  notices := Vector.replicate 64 none
  auditRecord := none
  viewPending := none
  viewBuffer := List.replicate 21 0x00#8
  scan := none
  findResult := FindResult.reset

/-- The request unit after pin reset and soft reset (R160). -/
def RequestUnit.reset : RequestUnit where
  lrq := []
  own := none
  held := none
  outcomes := []
  completions := []
  reserved := 0
  auditDue := false
  cursor := Cursor.idle

/-- The station controller after pin reset and soft reset (Table 28). -/
def Controller.reset : Controller where
  station := .config
  phase := .awaiting
  phaseKept := false
  leaveReason := .left
  leaveHeld := false
  exitCause := .none
  syncTimer := .stopped

/-- The host port after pin reset and soft reset (Table 39). -/
def HostPort.reset : HostPort where
  site := 0#16
  events := 0#16
  mask := 0#16
  lastCmd := ⟨.none, false, 0⟩
  find := FindFilter.reset
  selected := false
  frame := none
  sdo := none
  requestBytes := []
  compRead := none
  noticeRead := none
  viewRead := none
  findRead := none
  auditRead := none
  eventsLatch := none
  commitLatch := none

/-- The station right after pin reset, with no command waiting. The station number before its
first sampling is the model's choice (DESIGN CHOICE, log entry 1), as is PRI released (log
entry 4). -/
def State.reset : State where
  bus := BusUnit.reset
  engine := Engine.reset
  request := RequestUnit.reset
  control := Controller.reset
  host := HostPort.reset
  pending := []

end Sys2Proof.Machine
end

