-- ==== Sys2Proof/Machine/Flags.lean ====
section
/-!
DEFINITION. Event flags, the mask and INT (R171 to R175, Table 42), and the codes of the coded
registers (Tables 40, 41, 46, 47 and 49).
-/
namespace Sys2Proof.Machine

/-- Position of a flag in EVENTS and EVMASK (Table 42). -/
def Event.position : Event → Nat
  | .completion => 0
  | .notice => 1
  | .active => 2
  | .outside => 3
  | .disagree => 4
  | .restart => 5
  | .overrun => 6
  | .lock => 7
  | .freeze => 8
  | .findDone => 9
  | .donation => 10

/-- The positions that carry a flag (Table 42). -/
def flagPositions : BitVec 16 := 0x07FF#16

/-- Whether a flag is set. -/
def HostPort.flag (h : HostPort) (e : Event) : Bool := h.events.getLsbD e.position

/-- An event flag is set at its event; a flag already set stays set (R171). -/
def State.setEvent (e : Event) (s : State) : State :=
  { s with host := { s.host with events := s.host.events ||| (1#16 <<< e.position) } }

/-- A flag set only if its event happened. -/
def State.setEventIf (happened : Bool) (e : Event) (s : State) : State :=
  if happened then s.setEvent e else s

/-- INT is asserted while at least one flag is both set and enabled (R175). -/
def State.intAsserted (s : State) : Bool := s.host.events &&& s.host.mask != 0#16

/-- The byte written to one half of EVENTS clears the flags written 1 (R173). -/
def clearFlags (high : Bool) (value : Byte) (events : BitVec 16) : BitVec 16 :=
  events &&& ~~~ (replaceByte high value 0#16)

/-- The byte written to one half of EVMASK replaces its enables; positions with no flag stay 0
(R174). -/
def writeMask (high : Bool) (value : Byte) (mask : BitVec 16) : BitVec 16 :=
  replaceByte high value mask &&& flagPositions

/-- The bits of FIND_MASKS that are writable: bit 3 reads 0 (Table 42). -/
def findMaskBits : Byte := 0xF7#8

/-- The code of LASTCMD's source (Table 41). -/
def CmdSource.code : CmdSource → BitVec 3
  | .none => 0#3
  | .start => 1#3
  | .leave => 2#3
  | .withdraw => 3#3
  | .other => 4#3
  | .exit => 5#3

/-- LASTCMD as it reads (Table 41). -/
def LastCmd.byte (l : LastCmd) : Byte :=
  BitVec.ofNat 4 l.count ++ (BitVec.ofBool l.accepted ++ l.source.code)

/-- EXITCAUSE as it reads (Table 41). -/
def ExitCause.byte : ExitCause → Byte
  | .none => 0x00#8
  | .left => 0x01#8
  | .dropped => 0x02#8
  | .lockLost => 0x03#8
  | .syncTimeout => 0x04#8
  | .joinFailed => 0x05#8
  | .noDonor => 0x06#8

/-- The exit cause a leave reason gives (R115). -/
def LeaveReason.exitCause : LeaveReason → ExitCause
  | .left => .left
  | .syncTimeout => .syncTimeout

/-- Outcome codes (R184). -/
def Outcome.code : Outcome → BitVec 5
  | .held => 0x01#5
  | .waiting => 0x02#5
  | .released => 0x03#5
  | .trimmed => 0x04#5
  | .capacitySet => 0x05#5
  | .audited => 0x06#5
  | .tooLarge => 0x07#5
  | .quota => 0x08#5
  | .full => 0x09#5
  | .busy => 0x0A#5
  | .stale => 0x0B#5
  | .range => 0x0C#5
  | .void => 0x0D#5
  | .failedBus => 0x0E#5
  | .cancelled => 0x0F#5
  | .format => 0x10#5

/-- Notice cause codes (Table 47). -/
def Cause.code : Cause → Byte
  | .admitted => 0x01#8
  | .bumped => 0x02#8
  | .ejected => 0x03#8

/-- FIND result codes (Table 49). -/
def FindCode.code : FindCode → Byte
  | .none => 0x00#8
  | .running => 0x01#8
  | .complete => 0x02#8
  | .full => 0x03#8
  | .yielded => 0x04#8
  | .emptyWindow => 0x05#8

end Sys2Proof.Machine
end

