-- ==== Sys2Proof/Machine/Operands.lean ====
section
/-!
DEFINITION. The forms in which operands arrive and items are read: the request written at
REQ_PORT (R141, R142, Table 45), the items the ports give out (Tables 46 to 49), the addresses of
the register window (R179), and the header of a record start (R181).
-/
namespace Sys2Proof.Machine

/-! ### Addresses (R179) -/

/-- The port addresses, at which the current address stays (R179). -/
def isPort (a : Addr) : Bool :=
  a == 0x12#7 || a == 0x13#7 || a == 0x14#7 || a == 0x16#7 || a == 0x1D#7 || a == 0x1E#7

/-- The current address after a data byte: it rises by one and wraps from 7Fh to 00h, except at a
port, where it stays (R179). -/
def nextAddr (a : Addr) : Addr := if isPort a then a else a + 1#7

/-! ### Requests (R141, R142) -/

/-- The kind code of a request (Table 45). -/
def Demand.code : Demand → Byte
  | .claim _ _ _ _ _ => Kind.claim.code
  | .release _ _ => Kind.release.code
  | .trim _ _ _ => Kind.trim.code
  | .setcap _ _ => Kind.setcap.code
  | .audit => Kind.audit.code

/-- The slot a request names: RELEASE and TRIM (R152). -/
def Demand.slot : Demand → Option SlotNo
  | .release slot _ => some slot
  | .trim slot _ _ => some slot
  | .claim _ _ _ _ _ | .setcap _ _ | .audit => none

/-- The body of the record a request becomes; an AUDIT's two fields are those of the win (R66,
R148). -/
def Demand.body (number : CommitNo) (digest : Digest) : Demand → Body
  | .claim pool units cls wait tag => .claim pool units cls wait tag
  | .release slot tag => .release slot tag
  | .trim slot tag units => .trim slot tag units
  | .setcap pool capacity => .setcap pool capacity
  | .audit => .audit number digest

/-- The kind of the record a request becomes. -/
def Demand.kind : Demand → Kind
  | .claim _ _ _ _ _ => .claim
  | .release _ _ => .release
  | .trim _ _ _ => .trim
  | .setcap _ _ => .setcap
  | .audit => .audit

/-- What the fields of a request ask for, by its kind byte; none is a format error (R142). Fields
that a kind does not use are not examined (R141). -/
def parseDemand (kind item cw u0 u1 tag : Byte) : Option Demand :=
  match kindOfCode kind with
  | some .claim =>
    match finOfByte 8 item, parseClassWait cw with
    | some pool, some (cls, wait) =>
      if word16 u0 u1 == 0#16 then none else some (.claim pool (word16 u0 u1) cls wait tag)
    | _, _ => none
  | some .release => (finOfByte 64 item).map (fun slot => .release slot tag)
  | some .trim =>
    if word16 u0 u1 == 0#16 then none
    else (finOfByte 64 item).map (fun slot => .trim slot tag (word16 u0 u1))
  | some .setcap => (finOfByte 8 item).map (fun pool => .setcap pool (word16 u0 u1))
  | some .audit => some .audit
  | some .join | some .leave | some .snapHead | some .snapClaim | some .snapPool | some .snapEnd
  | none => none

/-- The request of its eight bytes; none is a format error, the last byte included (R142). -/
def parseRequest : List Byte → Option Request
  | [kind, ref, item, cw, u0, u1, tag, last] =>
    if last ≠ 0x00#8 then none
    else (parseDemand kind item cw u0 u1 tag).map (fun d => ⟨ref, d⟩)
  | _ => none

/-! ### Items read at the ports -/

/-- The two bytes of a completion's extra (R184). -/
def Extra.bytes : Extra → List Byte
  | .none => [0x00#8, 0x00#8]
  | .claimState st => [st.code, 0x00#8]
  | .counts b e => [byteOfNat b, byteOfNat e]
  | .distance n => [n.extractLsb' 0 8, 0x00#8]

/-- The ten bytes of a completion (Table 46). -/
def Completion.bytes (c : Completion) : List Byte :=
  [c.ref, c.kind, BitVec.ofBool c.commit.isSome ++ (0#2 ++ c.outcome.code),
   (c.slot.map (fun k => byteOfNat k.val)).getD 0xFF#8] ++ c.extra.bytes ++
  bytes32 (c.commit.getD 0#32)

/-- The ten bytes read at COMP_PORT from its copy; all 00h for the empty indication (R145). -/
def completionBytes : Option Completion → List Byte
  | some c => c.bytes
  | none => List.replicate 10 0x00#8

/-- The six bytes read at NOTICE_PORT (R170, Table 47). -/
def noticeBytes : Option (SlotNo × Notice) → List Byte
  | some (slot, n) => [byteOfNat slot.val, n.cause.code] ++ bytes32 n.commit
  | none => [0xFF#8, 0x00#8, 0x00#8, 0x00#8, 0x00#8, 0x00#8]

/-- The fifteen bytes of a FIND result (R167, Table 49). -/
def FindResult.bytes (r : FindResult) : List Byte :=
  [r.code.code, r.resume, byteOfNat r.found.length] ++
  (r.found.map (fun k => byteOfNat k.val) ++
    List.replicate (Config.findMax - r.found.length) 0xFF#8) ++ bytes32 r.commit

/-- The fourteen bytes of the audit record, all 00h while it is empty (R169, Table 49). -/
def auditBytes : Option AuditRecord → List Byte
  | some a => [0x01#8, byteOfNat a.sender.val] ++ bytes32 a.number ++ bytes32 a.ownDigest ++
      bytes32 a.digest
  | none => List.replicate 14 0x00#8

/-- The last value of VIEW_SEL that selects an item (R161). -/
def viewSelLast : Byte := 0x49#8

/-- The state of a slot as a view item shows it: 00h for FREE, then the claim (Table 48). -/
def slotItem : Option Claim → List Byte
  | some c =>
    [c.state.code, byteOfNat c.holder.val, byteOfNat c.pool.val] ++ bytes16 c.units ++
    [byteOfNat c.cls.val, c.tag] ++ bytes32 c.stamp ++ bytes32 (heldStampField c) ++
    [flagByte c.bumped]
  | none => List.replicate 16 0x00#8

/-- A pool as a view item shows it (Table 48). -/
def poolItem (p : Pool) : List Byte :=
  bytes16 p.capacity ++ bytes16 p.granted ++ [byteOfNat p.waiting, flagByte p.due]

/-- The roster as a view item shows it (Table 48). -/
def rosterItem (r : Roster) (joinCommit : CommitNo) : List Byte :=
  rosterBytes r ++ bytes32 joinCommit

/-- The sync list and the donor as a view item shows them (Table 48). -/
def syncListItem (list : List StationNo) (donor : Option StationNo) : List Byte :=
  [byteOfNat list.length] ++
  (list.map (fun k => byteOfNat k.val) ++
    List.replicate (Config.syncListMax - list.length) 0xFF#8) ++
  [(donor.map (fun k => byteOfNat k.val)).getD 0xFF#8]

/-! ### The FIND window (R164) -/

/-- The last slot of the window: a value above 3Fh is taken as 3Fh (R164). -/
def FindFilter.lastSlot (f : FindFilter) : Nat := min f.last.toNat 63

/-! ### Record starts (R80, R181) -/

/-- The sender field of a record, its third nibble, once it has been received. -/
def senderNibble (received : List Nibble) : Option Nibble := received[2]?

/-- The kind of a record start, from its first byte. -/
def startKind (received : List Nibble) : Option Kind :=
  match received with
  | lo :: hi :: _ => kindOfCode (byteOfNibbles lo hi)
  | _ => none

/-- Whether a record start shows an exclusive kind. -/
def startExclusive (received : List Nibble) : Bool :=
  ((startKind received).map Kind.exclusive).getD false

/-- Whether a record start names another sender than the station expected. -/
def senderDiffers (received : List Nibble) (expected : StationNo) : Bool :=
  match senderNibble received with
  | some x => stationOfNibble x != some expected
  | none => false

/-- The station a record start names; the station expected where it names none (DESIGN CHOICE,
log entry 13). -/
def startStation (received : List Nibble) (expected : StationNo) : StationNo :=
  ((senderNibble received).bind stationOfNibble).getD expected

end Sys2Proof.Machine
end

