-- ==== Sys2Proof/Machine/Ops.lean ====
section
/-!
DEFINITION. The named operations that the commands share: standing in the group, the drives of
the bus lines, completions and places, the choice of the own record, leaving and exit, and what
becomes of an own record that ends.
-/
namespace Sys2Proof.Machine

/-! ### Standing in the group -/

/-- The station number (R101). -/
def State.me (s : State) : StationNo := s.bus.station

/-- A member in its own knowledge: SYNCING, ACTIVE or LEAVING (00_scope, Terms). -/
def Controller.member (c : Controller) : Bool :=
  c.station == .syncing || c.station == .active || c.station == .leaving

/-- SYNCING, or LEAVING and still treated as SYNCING in its phase (R114). -/
def Controller.inSyncing (c : Controller) : Bool :=
  c.station == .syncing || (c.station == .leaving && c.phaseKept)

/-- In the phase AWAITING: no roster of the group is held (R104, R130). -/
def Controller.awaiting (c : Controller) : Bool := c.inSyncing && c.phase == .awaiting

/-- In the phase LOADING. -/
def Controller.loading (c : Controller) : Bool := c.inSyncing && c.phase == .loading

/-- The freeze is in force while the sync list is non-empty (R76). -/
def State.freeze (s : State) : Bool := !s.bus.syncList.isEmpty

/-- The donor: the lowest-numbered ACTIVE station while the sync list is non-empty (R104, R122). -/
def donorOf (roster : Roster) (list : List StationNo) : Option StationNo :=
  if list.isEmpty then none else (upTo 8).find? (fun k => roster[k] == .active)

/-- This station is donor (R122). -/
def State.isDonor (s : State) : Bool := donorOf s.bus.roster s.bus.syncList == some s.me

/-! ### Drives of the share bus lines (R56, R62, R63, R70, R77, R81) -/

/-- The kind of an own record. -/
def OwnWhat.kind : OwnWhat → Kind
  | .join => .join
  | .leave => .leave
  | .ordinary r _ => r.demand.kind
  | .snapshot b => b.kind

/-- REQ of this station is asserted (R62): it is LOCKED and in step, no restart episode is in
progress, its state permits the record, and the record is chosen and not held back by the freeze,
by an open list that is not empty, or by PRI. -/
def State.reqDriven (s : State) : Bool :=
  s.bus.locked && s.bus.inStep && !s.bus.restart && !s.bus.mrsDrive &&
  match s.request.own with
  | some o =>
    o.cond == .chosen &&
    (s.control.member || (s.control.station == .joining && o.what.kind == .join)) &&
    !(o.what.kind.ordinary && s.freeze) &&
    !(o.what.kind.exclusive && !s.bus.openList.isEmpty) &&
    (!s.bus.priIn || o.what.kind.priority)
  | none => false

/-- PRI is asserted by this station (R63). -/
def State.priDriven (s : State) : Bool :=
  s.reqDriven && (s.request.own.map (fun o => o.what.kind.priority)).getD false

/-- THR is asserted by this station (R26). -/
def State.thrDriven (s : State) : Bool :=
  s.bus.locked && s.bus.inStep && s.control.member &&
  decide (Config.throttleAt ≤ s.bus.applyQueue.length)

/-- ACK of this station is asserted (R70). -/
def State.ackDriven (s : State) : Bool :=
  match s.bus.window with
  | some (.ack _) => true
  | _ => false

/-- FLT is asserted by this station (R70). -/
def State.fltDriven (s : State) : Bool := s.bus.window == some .flt

/-- FRM and D0–D3 are driven by this station (R56). -/
def State.dataDriven (s : State) : Bool := (s.bus.inTransfer.map (·.driving)).getD false

/-- MRS is asserted by this station (R81). -/
def State.mrsDriven (s : State) : Bool := s.bus.mrsDrive

/-! ### Completions and places (R144, R159) -/

/-- The free places of the completion queue (R144). -/
def RequestUnit.freePlaces (r : RequestUnit) : Nat :=
  Config.completionMax - r.completions.length - r.reserved

/-- One completion is posted at the tail, and COMPLETION is set (R159). -/
def State.post (c : Completion) (s : State) : State :=
  { s with request := { s.request with completions := s.request.completions ++ [c] } }.setEvent
    .completion

/-- One completion is posted from a reserved place (R144). -/
def State.postReserved (c : Completion) (s : State) : State :=
  { s with request := { s.request with reserved := s.request.reserved - 1 } }.post c

/-- A completion with no commit number of an own ordinary record (R155, R159). -/
def Request.ended (r : Request) (outcome : Outcome) : Completion :=
  ⟨r.ref, r.demand.code, outcome, r.demand.slot, .none, none⟩

/-- The completion CANCELLED of an entry of the outcome list (R157). -/
def OutcomeEntry.cancelled (o : OutcomeEntry) : Completion :=
  ⟨o.ref, o.kind, .cancelled, o.slot, .none, some o.commit⟩

/-- The own record becomes none. -/
def State.clearOwn (s : State) : State := { s with request := { s.request with own := none } }

/-- The own record is put in place. -/
def State.setOwn (o : Own) (s : State) : State :=
  { s with request := { s.request with own := some o } }

/-- One reserved place is released (R144). -/
def State.releasePlace (s : State) : State :=
  { s with request := { s.request with reserved := s.request.reserved - 1 } }

/-! ### The choice of the own record (R147) -/

/-- The choice at an ACTIVE station with no freeze in force: the held record, then a due entry
AUDIT, then the LRQ head (candidates 4 to 6 of R147). A newly chosen record reserves a place. -/
def State.chooseOrdinary (s : State) : State :=
  match s.request.held with
  | some o =>
    { s with request := { s.request with own := some { o with cond := .chosen }, held := none } }
  | none =>
    if s.request.freePlaces = 0 then s
    else if s.request.auditDue then
      { s with request := { s.request with
          own := some (Own.fresh (.ordinary ⟨Config.entryAuditRef, .audit⟩ true)),
          auditDue := false, reserved := s.request.reserved + 1 } }
    else match s.request.lrq with
    | r :: _ =>
      { s with request := { s.request with
          own := some (Own.fresh (.ordinary r false)), reserved := s.request.reserved + 1 } }
    | [] => s

/-- Whenever the own record is none, the first candidate whose conditions hold is chosen (R147).
Candidate 3, the snapshot record, is chosen by the build itself (R125). -/
def State.choose (s : State) : State :=
  if s.request.own.isSome then s
  else match s.control.station with
  | .joining => s.setOwn (Own.fresh .join)
  | .leaving => s.setOwn (Own.fresh .leave)
  | .active => if s.freeze then s else s.chooseOrdinary
  | .config | .outside | .syncing => s

/-! ### Leaving and exit (R117, R156, R157) -/

/-- An own record that is chosen and not on the bus is dropped: a resend is CANCELLED, a first
offering releases its place, and a JOIN, LEAVE or snapshot record is discarded (R156, R157). -/
def State.dropChosen (s : State) : State :=
  match s.request.own with
  | some o =>
    if o.cond == .chosen then
      match o.what with
      | .ordinary r _ =>
        if o.won then s.clearOwn.postReserved (r.ended .cancelled) else s.clearOwn.releasePlace
      | .join | .leave | .snapshot _ => s.clearOwn
    else s
  | none => s

/-- A held own record is CANCELLED (R156, R157). -/
def State.dropHeld (s : State) : State :=
  match s.request.held with
  | some o =>
    match o.what with
    | .ordinary r _ =>
      { s with request := { s.request with held := none } }.postReserved (r.ended .cancelled)
    | .join | .leave | .snapshot _ => { s with request := { s.request with held := none } }
  | none => s

/-- Every entry of the outcome list is CANCELLED with its commit number, in commit order, and the
list is emptied (R157, step 1). -/
def State.cancelOutcomes (s : State) : State :=
  let posted := s.request.outcomes.foldl (fun t o => t.postReserved o.cancelled) s
  { posted with request := { posted.request with outcomes := [] } }

/-- The station enters LEAVING and a LEAVE becomes its next own record (R109, R114, R156). -/
def State.enterLeaving (reason : LeaveReason) (s : State) : State :=
  let left := { s with control := { s.control with
    station := .leaving, phaseKept := s.control.inSyncing, leaveReason := reason,
    syncTimer := .stopped } }
  left.dropChosen.dropHeld.choose

/-- What LASTCMD shows of an exit that discarded `n` requests (R177). -/
def exitLastCmd (n : Nat) : LastCmd := ⟨.exit, false, n⟩

/-- The bus unit at the entry into OUTSIDE (R27, R117): the apply queue, the roster and the sync
list are emptied, the tracker is IDLE, and every line driven is released. -/
def BusUnit.exit (b : BusUnit) : BusUnit :=
  { b with
    applyQueue := []
    roster := Roster.allAbsent
    syncList := []
    tracker := Tracker.idle
    window := b.window.map (fun _ => Drive.idle)
    inTransfer := b.inTransfer.map (fun t => { t with driving := false })
    mrsDrive := false }

/-- The replica at the entry into OUTSIDE: stale, not current, its history no longer running
(R18, R21, R29). -/
def Engine.exit (e : Engine) : Engine :=
  { e with stale := true, current := false, historyRunning := false }

/-- The station controller at the entry into OUTSIDE (R117, R118). -/
def Controller.exit (c : Controller) (cause : ExitCause) : Controller :=
  { c with station := .outside, phaseKept := false, leaveHeld := false, exitCause := cause,
           syncTimer := .stopped }

/-- The entry into OUTSIDE (R117, R157), with what LASTCMD then shows of the number of requests
discarded (R177). The outcome list is cancelled first, then an own record that has not won, then
the LRQ is discarded and a due entry AUDIT ceases to be due. -/
def State.enterOutside (cause : ExitCause) (lastCmd : Nat → LastCmd) (s : State) : State :=
  let t := s.cancelOutcomes.dropChosen.dropHeld
  let exited : State := { t with
    bus := t.bus.exit
    engine := t.engine.exit
    request := { t.request with lrq := [], auditDue := false, cursor := Cursor.idle }
    control := t.control.exit cause
    host := { t.host with lastCmd := lastCmd t.request.lrq.length } }
  (exited.setEvent .outside).setEventIf s.isDonor .donation

/-! ### Ends of an own record that is on the bus (R78, R153 to R158) -/

/-- The own record while it is on the bus. -/
def State.ownOnBus (s : State) : Option Own := s.request.own.filter (fun o => o.cond == .onBus)

/-- An own record that was on the bus is over and changed nothing: an ordinary one receives the
outcome given, with no commit number (R155); no other kind receives a completion (R158). -/
def State.endOwn (outcome : Outcome) (s : State) : State :=
  match s.ownOnBus with
  | some o =>
    match o.what with
    | .ordinary r _ => s.clearOwn.postReserved (r.ended outcome)
    | .join | .leave | .snapshot _ => s.clearOwn
  | none => s

/-- The counts of an own record after an abort: a fault abort raises its count and breaks the run
of restart aborts (R153); a restart abort raises the other count (R154). -/
def Own.countAbort (fault : Bool) (o : Own) : Own :=
  if fault then { o with faults := o.faults + 1, restarts := 0 }
  else { o with restarts := o.restarts + 1 }

/-- The record is given up at its second fault abort or its fourth consecutive restart abort. -/
def Own.givenUp (fault : Bool) (o : Own) : Bool :=
  if fault then decide (Config.faultLimit ≤ o.faults) else decide (Config.restartLimit ≤ o.restarts)

/-- An aborted ordinary record of a member: given up, chosen again, held, or cancelled (R153,
R154). `o` carries the counts after the abort. -/
def State.resendOrdinary (fault : Bool) (o : Own) (r : Request) (s : State) : State :=
  if o.givenUp fault then s.clearOwn.postReserved (r.ended .failedBus)
  else if s.control.station == .active then
    if s.freeze then
      { s with request := { s.request with own := none, held := some { o with cond := .chosen } } }
    else s.setOwn { o with cond := .chosen }
  else s.clearOwn.postReserved (r.ended .cancelled)

/-- The own record on the bus has aborted, by fault (R153) or by restart episode (R154). -/
def State.abortOwn (fault : Bool) (s : State) : State :=
  match s.ownOnBus with
  | some o =>
    let counted := o.countAbort fault
    match o.what with
    | .ordinary r _ =>
      if s.control.member then s.resendOrdinary fault counted r
      else s.clearOwn.postReserved (r.ended .cancelled)
    | .join =>
      if s.control.station == .joining then
        if s.control.leaveHeld then s.clearOwn.enterOutside .left exitLastCmd
        else if counted.givenUp fault then s.clearOwn.enterOutside .joinFailed exitLastCmd
        else s.setOwn { counted with cond := .chosen }
      else s.clearOwn
    | .leave =>
      if s.control.station == .leaving then
        if counted.givenUp fault then
          s.clearOwn.enterOutside s.control.leaveReason.exitCause exitLastCmd
        else s.setOwn { counted with cond := .chosen }
      else s.clearOwn
    | .snapshot _ => s.clearOwn
  | none => s

/-! ### Protocol violations (R80, R81) -/

/-- A protocol violation is detected only by a member that is LOCKED and in step (R80). -/
def State.detects (s : State) : Bool := s.bus.locked && s.bus.inStep && s.control.member

/-- A member that detects a violation asserts MRS, once in an episode (R81). -/
def State.assertMrs (s : State) : State :=
  if s.bus.restart then s else { s with bus := { s.bus with mrsDrive := true } }

/-! ### FIND and the apply queue -/

/-- A scan ends: its result record is written whole and FIND_DONE is set (R166). -/
def State.endScan (code : FindCode) (scan : Scan) (commit : CommitNo) (s : State) : State :=
  { s with engine := { s.engine with
      scan := none, findResult := ⟨code, byteOfNat scan.next, scan.found, commit⟩ } }.setEvent
    .findDone

/-- An apply entry that arrives after a scan's first step ends it YIELDED (R53). -/
def State.yieldScan (s : State) : State :=
  match s.engine.scan with
  | some scan =>
    match scan.commit with
    | some commit => s.endScan .yielded scan commit
    | none => s
  | none => s

/-- A built snapshot record that has not won is discarded (R55, R129). -/
def State.discardBuilt (s : State) : State :=
  match s.request.own with
  | some o =>
    match o.cond, o.what with
    | .chosen, .snapshot _ => s.clearOwn
    | _, _ => s
  | none => s

/-- An apply entry arrives at the tail of the apply queue (R25): a running scan yields and a built
record is discarded. -/
def State.arrive (e : ApplyEntry) (s : State) : State :=
  ({ s with bus := { s.bus with applyQueue := s.bus.applyQueue ++ [e] } }).yieldScan.discardBuilt

/-! ### Engine turns (R52, R125) -/

/-- A snapshot-record build is asked for (R125). -/
def State.buildWanted (s : State) : Bool :=
  s.isDonor && s.request.cursor.phase != .idle && s.control.station == .active &&
  s.request.own.isNone && s.bus.applyQueue.isEmpty && s.bus.openList.isEmpty

/-- A view copy may take the table memory: no application and no build is waiting (R52). -/
def State.viewTurn (s : State) : Bool := s.bus.applyQueue.isEmpty && !s.buildWanted

/-- A FIND step may take the table memory (R52). -/
def State.findTurn (s : State) : Bool := s.viewTurn && s.engine.viewPending.isNone

/-! ### Resets (R60, R110, R160) -/

/-- The soft reset: every block takes its soft-reset value, the station number and the lock are
kept (R110, Table 14). PRI as others drive it is no state of the part and stays. -/
def State.softReset (s : State) : State :=
  { State.reset with
    bus := { BusUnit.reset with
      station := s.bus.station, locked := s.bus.locked, priIn := s.bus.priIn }
    pending := s.pending }

end Sys2Proof.Machine
end

