-- ==== Sys2Proof/Machine/Checks.lean ====
section
/-!
DEFINITION. The checks a station makes on a record in its check window (R94 to R100): form,
membership, origin, sequence and integrity, and the snapshot tracker they read (R98).
-/
namespace Sys2Proof.Machine

/-- The roster check (R96): an ordinary record or a LEAVE from a station ABSENT in the roster
fails. -/
def rosterCheck (roster : Roster) (r : Record) : Bool :=
  !((r.body.kind.ordinary || r.body.kind == .leave) && roster[r.sender] == .absent)

/-- The freeze check (R96): an ordinary record that started under the freeze fails. -/
def freezeCheck (frozen : Bool) (r : Record) : Bool := !(r.body.kind.ordinary && frozen)

/-- The site-code check (R96). -/
def siteCheck (site : BitVec 16) (r : Record) : Bool :=
  match r.body with
  | .join code => code == site
  | _ => true

/-- The membership checks (R96). -/
def membershipChecks (s : State) (frozen : Bool) (r : Record) : Bool :=
  rosterCheck s.bus.roster r && freezeCheck frozen r && siteCheck s.host.site r

/-- The origin checks (R97): a snapshot record comes from the current donor and names the head of
the sync list. -/
def originChecks (s : State) (r : Record) : Bool :=
  match r.body.target with
  | some target =>
    donorOf s.bus.roster s.bus.syncList == some r.sender && s.bus.syncList.head? == some target
  | none => true

/-- The figures of a pool agree with its claim tally (R100). -/
def poolAgrees (figures : Option Figures) (tally : Vector Tally 8) : Bool :=
  match figures with
  | some f =>
    f.granted == ((sumOver 8 fun h => tally[h].heldUnits : Nat) : Int) &&
    f.waiting == ((sumOver 8 fun h => tally[h].waiting : Nat) : Int)
  | none => false

/-- The integrity check (R100), made on a SNAP-END that has passed its sequence checks. -/
def integrityCheck (t : Tracker) : Bool :=
  (upTo 8).all fun p => poolAgrees t.figures[p] t.tally[p]

/-- The sequence checks of a record addressed to this station (R99, Table 24), the integrity check
with them at SNAP-END. With the tracker IDLE anything but a SNAP-HEAD fails. -/
def sequenceChecks (t : Tracker) (b : Body) : Bool :=
  match b with
  | .snapHead _ _ _ _ => true
  | .snapClaim _ slot _ =>
    t.phase == .loading && t.nextPool == 0 && (match t.lastSlot with
      | some last => decide (last < slot)
      | none => true)
  | .snapPool _ pool _ => t.phase == .loading && pool.val == t.nextPool
  | .snapEnd _ count =>
    t.phase == .loading && t.nextPool == 8 && count == t.received && integrityCheck t
  | .join _ | .leave | .claim _ _ _ _ _ | .release _ _ | .trim _ _ _ | .setcap _ _ | .audit _ _ =>
    true

/-- The first-record check of an AWAITING joiner: a record addressed to it is a SNAP-HEAD (R94,
R99). -/
def firstRecordCheck (r : Record) (me : StationNo) : Bool :=
  !r.addressedTo me || r.body.kind == .snapHead

/-- The checks beyond form that the station's state calls for (Table 22). -/
def stateChecks (s : State) (frozen : Bool) (r : Record) : Bool :=
  if s.control.awaiting then firstRecordCheck r s.me
  else membershipChecks s frozen r && originChecks s r &&
    (!(s.control.loading && r.addressedTo s.me) || sequenceChecks s.bus.tracker r.body)

/-- The read-back check of a sender: what it read back equals what it drove (R70, R94). -/
def readBackCheck (s : State) (o : OpenRecord) : Bool :=
  !o.own || (match s.request.own with
    | some own => own.contents == o.bytes
    | none => true)

/-- What the station drives in the check window of a record that opens now (R70, R94): nothing if
it does not evaluate; FLT if any check fails; its ACK if every check passes. -/
def driveFor (s : State) (o : OpenRecord) : Drive :=
  if s.bus.locked && s.bus.inStep && s.control.member then
    match parseRecord o.bytes with
    | some r => if stateChecks s o.frozen r && readBackCheck s o then .ack r else .flt
    | none => .flt
  else .idle

/-- The window of the head record opens when none is in progress (R69). -/
def State.openWindow (s : State) : State :=
  match s.bus.window, s.bus.openList with
  | none, o :: _ => { s with bus := { s.bus with window := some (driveFor s o) } }
  | _, _ => s

/-! ### The snapshot tracker (R98) -/

/-- What the frees of a commit take from one pool's tally (R98, step 1). -/
def Tracker.removed (t : Tracker) (gone : StationNo → Bool) (p : PoolNo) : Tally :=
  ⟨sumOver 8 fun h => if gone h then t.tally[p][h].heldUnits else 0,
   sumOver 8 fun h => if gone h then t.tally[p][h].waiting else 0⟩

/-- Step 1: each station dropped, and a LEAVE's sender, loses its tally in every pool, and the
figures received are lowered by the amounts removed. -/
def Tracker.frees (gone : StationNo → Bool) (t : Tracker) : Tracker :=
  { t with
    tally := tab fun p => tab fun h => if gone h then ⟨0, 0⟩ else t.tally[p][h]
    figures := tab fun p => (t.figures[p]).map fun f =>
      ⟨f.granted - (t.removed gone p).heldUnits, f.waiting - (t.removed gone p).waiting⟩ }

/-- Step 2: a SNAP-HEAD that is not void starts the tracker afresh in LOADING. -/
def Tracker.restart : Tracker := { Tracker.idle with phase := .loading }

/-- Step 3: a SNAP-CLAIM is counted; its claim is added to the tally unless its holder is dropped
at this commit. -/
def Tracker.addClaim (dropped : Bool) (slot : SlotNo) (c : Claim) (t : Tracker) : Tracker :=
  let old := t.tally[c.pool][c.holder]
  let new : Tally := match c.state with
    | .held => { old with heldUnits := old.heldUnits + c.units.toNat }
    | .waiting => { old with waiting := old.waiting + 1 }
  { t with
    lastSlot := some slot
    received := t.received + 1
    tally := if dropped then t.tally else put t.tally c.pool (put t.tally[c.pool] c.holder new) }

/-- Step 4: a SNAP-POOL's figures are held, less what step 1 removed from its pool's tallies. -/
def Tracker.addPool (gone : Tally) (p : PoolNo) (f : Pool) (t : Tracker) : Tracker :=
  { t with
    figures := put t.figures p
      (some ⟨(f.granted.toNat : Int) - gone.heldUnits, (f.waiting : Int) - gone.waiting⟩)
    nextPool := t.nextPool + 1 }

/-- The tracker at a commit this station numbers while it is treated as SYNCING (R98), in the
order of the rule. -/
def Tracker.commit (me : StationNo) (r : Record) (drop : List StationNo) (isVoid : Bool)
    (t : Tracker) : Tracker :=
  let gone : StationNo → Bool := fun h =>
    drop.contains h || (r.body.kind == .leave && h == r.sender)
  let freed := t.frees gone
  if r.addressedTo me then
    match r.body with
    | .snapHead _ _ _ _ => if isVoid then freed else Tracker.restart
    | .snapClaim _ slot c => freed.addClaim (drop.contains c.holder) slot c
    | .snapPool _ p f => freed.addPool (t.removed gone p) p f
    | .snapEnd _ _ => if isVoid then freed else Tracker.idle
    | .join _ | .leave | .claim _ _ _ _ _ | .release _ _ | .trim _ _ _ | .setcap _ _
    | .audit _ _ => freed
  else freed

end Sys2Proof.Machine
end

