-- ==== Sys2Proof/Machine/Commit.lean ====
section
/-!
DEFINITION. What a commit does at the station that numbers it (R72 to R74, R104 to R106, R111 to
R115, R122 to R127, R151): number, drop set, roster, apply entry, and what is handed on.
-/
namespace Sys2Proof.Machine

/-! ### The roster and the sync list (R105, R106) -/

/-- The roster and the sync list together. -/
structure Standing where
  roster : Roster
  list : List StationNo
  deriving DecidableEq, Repr

/-- Step 1: every station of the drop set becomes ABSENT and leaves the sync list (R105). -/
def Standing.drop (drop : List StationNo) (x : Standing) : Standing :=
  ⟨tab fun k => if drop.contains k then .absent else x.roster[k],
   x.list.filter (fun k => !drop.contains k)⟩

/-- Step 2: the record's roster effect (R105). A JOIN's sender ends SYNCING at the tail of the
list; the list never repeats a station (log entry 14). -/
def Standing.effect (r : Record) (x : Standing) : Standing :=
  match r.body with
  | .join _ =>
    ⟨put x.roster r.sender .syncing, x.list.filter (fun k => k != r.sender) ++ [r.sender]⟩
  | .leave => ⟨put x.roster r.sender .absent, x.list.filter (fun k => k != r.sender)⟩
  | .snapEnd target _ =>
    if x.list.head? = some target then ⟨put x.roster target .active, x.list.tail⟩ else x
  | .claim _ _ _ _ _ | .release _ _ | .trim _ _ _ | .setcap _ _ | .audit _ _
  | .snapHead _ _ _ _ | .snapClaim _ _ _ | .snapPool _ _ _ => x

/-- The no-donor rule acts: joiners stand on the list and no station is ACTIVE (R106). -/
def Standing.noDonor (x : Standing) : Bool :=
  !x.list.isEmpty && !(upTo 8).any (fun k => x.roster[k] == .active)

/-- Step 3: the no-donor rule makes every SYNCING station ABSENT and empties the list (R106). -/
def Standing.settle (x : Standing) : Standing :=
  if x.noDonor then
    ⟨tab fun k => if x.roster[k] == .syncing then .absent else x.roster[k], []⟩
  else x

/-- Steps 1 and 2 (R105); step 2 is skipped when the commit is void. -/
def Standing.twoSteps (drop : List StationNo) (isVoid : Bool) (r : Record) (x : Standing) :
    Standing := if isVoid then x.drop drop else (x.drop drop).effect r

/-! ### What the close decides (R72, R73) -/

/-- A SNAP-HEAD addressed to a station treated as SYNCING: it takes E and the roster carried. -/
def carriedHead (s : State) (r : Record) : Option (CommitNo × Standing) :=
  match r.body with
  | .snapHead target number roster list =>
    if target = s.me ∧ s.control.inSyncing = true then some (number, ⟨roster, list⟩) else none
  | _ => none

/-- The number the record takes (R72). -/
def commitNumber (s : State) (r : Record) : CommitNo :=
  match carriedHead s r with
  | some (number, _) => number
  | none => s.bus.commit + 1#32

/-- The drop set: the stations ACTIVE or SYNCING in the roster used whose ACK lines were released
at the close; this station is never in it (R73). -/
def dropSet (me : StationNo) (roster : Roster) (ack : BitVec 8) : List StationNo :=
  (upTo 8).filter fun k => roster[k] != .absent && !lineOf ack k && k != me

/-- What one commit amounts to at this station. -/
structure Commit where
  number : CommitNo
  drop : List StationNo
  isVoid : Bool
  /-- The standing after steps 1 and 2. -/
  mid : Standing
  /-- The standing after step 3. -/
  after : Standing
  deriving DecidableEq, Repr

/-- The commit of record `r` at a member whose ACK is asserted (R72, R73, R105). A station that
holds no roster keeps it all ABSENT unless a SNAP-HEAD that is not void installs one (R104). -/
def commitOf (s : State) (r : Record) (ack : BitVec 8) : Commit :=
  let own : Standing := ⟨s.bus.roster, s.bus.syncList⟩
  let used := match carriedHead s r with
    | some (_, carried) => carried
    | none => own
  let drop := dropSet s.me used.roster ack
  let isVoid := drop.contains r.sender && r.body.kind != .join
  let base := if isVoid then own else used
  let holds := !s.control.awaiting || ((carriedHead s r).isSome && !isVoid)
  let mid := if holds then base.twoSteps drop isVoid r else own
  ⟨commitNumber s r, drop, isVoid, mid, if holds then mid.settle else own⟩

/-- The apply entry of a commit (R28): the freeze flags compare the sync list before and after. -/
def Commit.entry (c : Commit) (r : Record) (before : List StationNo) : ApplyEntry where
  commit := c.number
  record := r
  drop := c.drop
  isVoid := c.isVoid
  freezeAfter := !c.after.list.isEmpty
  freezeEnded := !before.isEmpty && c.after.list.isEmpty

/-! ### The own record at a commit (R78, R127, R152) -/

/-- The donor's cursor after its own record has committed (R127). -/
def Cursor.advance (b : Body) (c : Cursor) : Cursor :=
  match b with
  | .snapHead _ _ _ _ => { c with phase := .claims, nextSlot := 0, count := 0 }
  | .snapClaim _ slot _ => { c with nextSlot := slot.val + 1, count := c.count + 1 }
  | .snapPool _ p _ =>
    if p.val = 7 then { c with nextPool := 8, phase := .finish }
    else { c with nextPool := p.val + 1 }
  | .snapEnd _ _ | .join _ | .leave | .claim _ _ _ _ _ | .release _ _ | .trim _ _ _
  | .setcap _ _ | .audit _ _ => c

/-- The station's own record has committed with its ACK asserted: an ordinary one enters the
outcome list (R152), a snapshot record advances the cursor (R127), a LEAVE is over (R158). -/
def State.ownCommitted (number : CommitNo) (s : State) : State :=
  match s.ownOnBus with
  | some o =>
    match o.what with
    | .ordinary r _ =>
      { s with request := { s.request with
          own := none
          outcomes := s.request.outcomes ++ [⟨number, r.demand.code, r.ref, r.demand.slot⟩] } }
    | .snapshot b =>
      { s with request := { s.request with own := none, cursor := s.request.cursor.advance b } }
    | .join | .leave => s.clearOwn
  | none => s

/-! ### What is handed on (R74, R76, R113, R122, R124, R140, R151) -/

/-- The station leaves at this commit: its own LEAVE has committed (R115), or the no-donor rule
removes its SYNCING entry (R106). -/
def exitAt (s : State) (own : Bool) (c : Commit) : Option ExitCause :=
  if own && (s.ownOnBus.map (·.what)) == some .leave && s.control.station == .leaving then
    some s.control.leaveReason.exitCause
  else if s.control.inSyncing && c.mid.noDonor && c.mid.roster[s.me] == .syncing then
    some .noDonor
  else none

/-- The sync timer at a commit (R140): a snapshot record numbered while SYNCING starts it again. -/
def Controller.timerAt (r : Record) (c : Controller) : Controller :=
  if c.station == .syncing && r.body.kind.exclusive then
    { c with syncTimer := .running Config.syncTimerMs }
  else c

/-- The phase at a snapshot record addressed to this station that is not void (R113, R114). -/
def State.phaseAt (r : Record) (number : CommitNo) (isVoid : Bool) (s : State) : State :=
  if isVoid || !s.control.inSyncing || !r.addressedTo s.me then s
  else match r.body with
  | .snapHead _ _ _ _ => { s with control := { s.control with phase := .loading } }
  | .snapEnd _ _ =>
    if s.control.station == .syncing then
      State.setEvent .active { s with
        control := { s.control with station := .active, syncTimer := .stopped }
        bus := { s.bus with joinCommit := number }
        request := { s.request with auditDue := true } }
    else { s with control := { s.control with phaseKept := false } }
  | _ => s

/-- The donor's cursor after the roster effects of a commit (R124): HEAD for the head at the
beginning of a donation, at a change of head and at a rejoin of the head; IDLE at the end of a
donation. -/
def State.cursorAt (r : Record) (wasDonor : Bool) (before : List StationNo) (s : State) : State :=
  let head := s.bus.syncList.head?
  let again := !wasDonor || before.head? != head ||
    (r.body.kind == .join && before.head? == some r.sender)
  if s.isDonor then
    if again then { s with request := { s.request with cursor := Cursor.headFor head } } else s
  else if wasDonor then { s with request := { s.request with cursor := Cursor.idle } }
  else s

/-- The beginning of the freeze at the own record (R151). -/
def State.freezeBegins (s : State) : State :=
  match s.request.own with
  | some o =>
    match o.cond, o.what with
    | .chosen, .ordinary _ entry =>
      if o.won then { s with request := { s.request with own := none, held := some o } }
      else { s with request := { s.request with
        own := none, reserved := s.request.reserved - 1
        auditDue := s.request.auditDue || entry } }
    | _, _ => s
  | none => s

/-- The tracker at a commit (R98): it changes only while the station is treated as SYNCING. -/
def trackerAt (s : State) (r : Record) (c : Commit) : Tracker :=
  if s.control.inSyncing then s.bus.tracker.commit s.me r c.drop c.isVoid else s.bus.tracker

/-- A commit that a member numbers (R74): roster effects, apply entry, and reports, all within the
close. FREEZE is set where the freeze begins or ends here (R76), and at every install of a freeze by
a SNAP-HEAD addressed to this station that is not void, also where it was in force (R121, R132,
Table 35). At a commit that takes the station out, the exit alone reports (R117; log entry 9). -/
def State.commitMember (r : Record) (own : Bool) (ack : BitVec 8) (s : State) : State :=
  let c := commitOf s r ack
  let entry := c.entry r s.bus.syncList
  match exitAt s own c with
  | some cause =>
    let numbered : State := { s with bus := { s.bus with commit := c.number } }
    let ended := (numbered.arrive entry)
    (if own then ended.ownCommitted c.number else ended).enterOutside cause exitLastCmd
  | none =>
    let installs := (carriedHead s r).isSome && !c.isVoid
    let moved : State := { s with
      bus := { s.bus with
        commit := c.number, roster := c.after.roster, syncList := c.after.list
        tracker := trackerAt s r c }
      control := s.control.timerAt r }
    let phased := (moved.arrive entry).phaseAt r c.number c.isVoid
    let told := if own then phased.ownCommitted c.number else phased
    let donating := told.cursorAt r s.isDonor s.bus.syncList
    let frozen := if !s.freeze && donating.freeze then donating.freezeBegins else donating
    (frozen.setEventIf (s.freeze != frozen.freeze || (installs && frozen.freeze)) .freeze).setEventIf
      (s.isDonor != frozen.isDonor) .donation

/-! ### The commit of the own JOIN (R111) -/

/-- The apply entry of the own JOIN (R25, R28). -/
def joinEntry (s : State) (founding : Bool) : ApplyEntry where
  commit := 1#32
  record := ⟨s.me, .join s.host.site⟩
  drop := []
  isVoid := false
  freezeAfter := !founding
  freezeEnded := false

/-- The own JOIN commits (R72, R104, R111): with no ACK asserted the station founds a group and is
ACTIVE; else it is SYNCING / AWAITING and its sync timer starts. A held LEAVE is then taken in the
new state (R109). -/
def State.commitJoin (ack : BitVec 8) (s : State) : State :=
  let founding := ack == 0#8
  let arrived := (s.clearOwn.arrive (joinEntry s founding))
  let entered : State :=
    if founding then
      State.setEvent .active { arrived with
        bus := { arrived.bus with
          commit := 1#32, roster := put Roster.allAbsent s.me .active, syncList := []
          joinCommit := 1#32 }
        control := { arrived.control with station := .active, leaveHeld := false } }
    else
      { arrived with
        bus := { arrived.bus with
          commit := 1#32, roster := Roster.allAbsent, syncList := [] }
        control := { arrived.control with
          station := .syncing, phase := .awaiting, leaveHeld := false
          syncTimer := .running Config.syncTimerMs } }
  if s.control.leaveHeld then entered.enterLeaving .left else entered

/-! ### The close of a window (R71, R72, R75) -/

/-- A member that has failed its ACK takes itself to be dropped (R75, R116). Its own record of that
window, if it was, ends void at a commit and cancelled at an abort (R78, R155). -/
def State.selfDrop (own aborted : Bool) (s : State) : State :=
  let out := s.enterOutside .dropped exitLastCmd
  if own then out.endOwn (if aborted then .cancelled else .void) else out

/-- What a close does, the closed record already off the open list: `drive` is what this station
drove in the window (R71, R72, R75, R78). -/
def State.closeAs (drive : Drive) (o : OpenRecord) (ack : BitVec 8) (flt : Bool) (s : State) :
    State :=
  match drive with
  | .flt => if o.own then s.abortOwn true else s
  | .ack r =>
    if !lineOf ack s.me then s.selfDrop o.own flt
    else if flt then (if o.own then s.abortOwn true else s)
    else s.commitMember r o.own ack
  | .idle =>
    if !o.own then s
    else if flt then s.abortOwn true
    else if s.control.station == .joining && (s.ownOnBus.map (·.what)) == some .join then
      s.commitJoin ack
    else s.endOwn .cancelled

/-- A check window closes (R69, R72): the head record leaves the open list and is decided, the
window of the next record opens, and the request unit chooses anew. Nothing closes where no window
is in progress. -/
def State.closeWindow (ack : BitVec 8) (flt : Bool) (s : State) : State :=
  match s.bus.window, s.bus.openList with
  | some drive, o :: rest =>
    let off : State := { s with bus := { s.bus with openList := rest, window := none } }
    ((off.closeAs drive o ack flt).openWindow).choose
  | _, _ => s

end Sys2Proof.Machine
end

