-- ==== Sys2Proof/Machine/Replica.lean ====
section
/-!
DEFINITION. The application of one apply entry to the replica (spec/02, and spec/06 for snapshot
records at their target): the seven steps of R30, as functions of the tables alone.
-/
namespace Sys2Proof.Machine

/-! ### Ages and the wait line (R12, R13) -/

/-- The age of a commit number at the application of commit `now` (R12). -/
def age (now s : CommitNo) : CommitNo := now - s

/-- Order of the wait line between two claims (R13): class highest first, then stamp age oldest
first, then slot number lowest first. -/
def waitsAhead (now : CommitNo) (x y : SlotNo × Claim) : Bool :=
  decide (y.2.cls < x.2.cls) || (x.2.cls == y.2.cls &&
    (decide ((age now y.2.stamp).toNat < (age now x.2.stamp).toNat) ||
      (age now x.2.stamp == age now y.2.stamp && decide (x.1 < y.1))))

/-- Order of SETCAP victims (R43): class lowest first, then held-stamp newest first, then slot
number highest first. -/
def victimAhead (now : CommitNo) (x y : SlotNo × Claim) : Bool :=
  decide (x.2.cls < y.2.cls) || (x.2.cls == y.2.cls &&
    (decide ((age now (heldStampField x.2)).toNat < (age now (heldStampField y.2)).toNat) ||
      (age now (heldStampField x.2) == age now (heldStampField y.2) && decide (y.1 < x.1))))

/-- The claims of a pool in a given state, with their slots, in slot order. -/
def claimsOf (slots : Vector (Option Claim) 64) (p : PoolNo) (st : ClaimState) :
    List (SlotNo × Claim) :=
  (upTo 64).filterMap fun i => match slots[i] with
    | some c => if c.pool == p && c.state == st then some (i, c) else none
    | none => none

/-- The wait line of a pool at the application of commit `now` (R13). -/
def waitLine (now : CommitNo) (slots : Vector (Option Claim) 64) (p : PoolNo) :
    List (SlotNo × Claim) := orderBy (waitsAhead now) (claimsOf slots p .waiting)

/-- The HELD claims of a pool in the order in which a SETCAP takes victims (R43). -/
def victimLine (now : CommitNo) (slots : Vector (Option Claim) 64) (p : PoolNo) :
    List (SlotNo × Claim) := orderBy (victimAhead now) (claimsOf slots p .held)

/-- Units fit into a pool's free units, its capacity less its granted. -/
def fits (p : Pool) (units : BitVec 16) : Bool :=
  decide (p.granted.toNat + units.toNat ≤ p.capacity.toNat)

/-! ### The work of one application -/

/-- What the steps of one application hand on: the tables, the touched pools (R31), the last change
to be noticed of each claim of this station (R22), and what step 1 freed of each pool (R134). -/
structure Work where
  pools : Vector Pool 8
  slots : Vector (Option Claim) 64
  touched : Vector Bool 8
  marks : Vector (Option Cause) 64
  freedUnits : Vector Nat 8
  freedWaiting : Vector Nat 8
  deriving DecidableEq, Repr

/-- What an application reports to the request unit and the host port beside the tables. -/
structure Decision where
  outcome : Outcome
  slot : Option SlotNo
  extra : Extra
  deriving DecidableEq, Repr

/-- A pool is touched (R31). -/
def Work.touch (p : PoolNo) (w : Work) : Work := { w with touched := put w.touched p true }

/-- A pool record is replaced. -/
def Work.setPool (p : PoolNo) (x : Pool) (w : Work) : Work := { w with pools := put w.pools p x }

/-- A slot is replaced. -/
def Work.setSlot (i : SlotNo) (c : Option Claim) (w : Work) : Work :=
  { w with slots := put w.slots i c }

/-- A change to a claim that is noticed where this station holds it (R22). -/
def Work.mark (me : StationNo) (c : Claim) (i : SlotNo) (cause : Cause) (w : Work) : Work :=
  if c.holder == me then { w with marks := put w.marks i (some cause) } else w

/-- The pool record after one of its claims has left it: a HELD claim's units come off granted, a
WAITING claim off the waiting count (R3). -/
def Pool.without (p : Pool) (c : Claim) : Pool :=
  match c.state with
  | .held => { p with granted := p.granted - c.units }
  | .waiting => { p with waiting := p.waiting - 1 }

/-- One claim is freed: its slot becomes FREE and its pool is adjusted (R3). -/
def Work.free (i : SlotNo) (c : Claim) (w : Work) : Work :=
  (w.setSlot i none).setPool c.pool (w.pools[c.pool].without c)

/-! ### Step 1: the drop set (R32) -/

/-- Whether step 1 frees slot `i`: it lies below the horizon and its claim's holder is gone. -/
def freedAt (gone : StationNo → Bool) (horizon : Nat) (slots : Vector (Option Claim) 64)
    (i : SlotNo) : Bool :=
  match slots[i] with
  | some c => gone c.holder && decide (i.val < horizon)
  | none => false

/-- The claim of slot `i` if step 1 frees it and it belongs to pool `p` in state `st`. -/
def freedOf (gone : StationNo → Bool) (horizon : Nat) (slots : Vector (Option Claim) 64)
    (p : PoolNo) (st : ClaimState) (i : SlotNo) : Option Claim :=
  if freedAt gone horizon slots i then slots[i].filter (fun c => c.pool == p && c.state == st)
  else none

/-- Units of HELD claims of pool `p` that step 1 frees. -/
def freedUnitsOf (gone : StationNo → Bool) (horizon : Nat) (slots : Vector (Option Claim) 64)
    (p : PoolNo) : Nat :=
  sumOver 64 fun i => match freedOf gone horizon slots p .held i with
    | some c => c.units.toNat
    | none => 0

/-- Number of WAITING claims of pool `p` that step 1 frees. -/
def freedWaitingOf (gone : StationNo → Bool) (horizon : Nat) (slots : Vector (Option Claim) 64)
    (p : PoolNo) : Nat := countOver 64 fun i => (freedOf gone horizon slots p .waiting i).isSome

/-- Whether step 1 frees a claim of pool `p`. -/
def freesInPool (gone : StationNo → Bool) (horizon : Nat) (slots : Vector (Option Claim) 64)
    (p : PoolNo) : Bool :=
  (upTo 64).any fun i => freedAt gone horizon slots i && slots[i].any (fun c => c.pool == p)

/-- Step 1 (R32): every claim below the horizon whose holder is gone is freed. The frees adjust the
pools installed, and touch their pools whether installed or not (R135). -/
def Work.dropStep (gone : StationNo → Bool) (horizon : Nat) (installed : Vector Bool 8)
    (w : Work) : Work :=
  { w with
    slots := tab fun i => if freedAt gone horizon w.slots i then none else w.slots[i]
    pools := tab fun p =>
      if installed[p] then
        { w.pools[p] with
          granted := w.pools[p].granted - BitVec.ofNat 16 (freedUnitsOf gone horizon w.slots p)
          waiting := w.pools[p].waiting - freedWaitingOf gone horizon w.slots p }
      else w.pools[p]
    touched := tab fun p => freesInPool gone horizon w.slots p
    freedUnits := tab fun p => freedUnitsOf gone horizon w.slots p
    freedWaiting := tab fun p => freedWaitingOf gone horizon w.slots p }

/-! ### Step 3: the ordinary kinds (R38 to R45) -/

/-- The holding count of a station (R10). -/
def holdingCount (slots : Vector (Option Claim) 64) (k : StationNo) : Nat :=
  countOver 64 fun i => slots[i].any (fun c => c.holder == k)

/-- Some claim of the replica has this stamp (R9). -/
def stampTaken (slots : Vector (Option Claim) 64) (n : CommitNo) : Bool :=
  (upTo 64).any fun i => slots[i].any (fun c => c.stamp == n)

/-- The slot available to a CLAIM committed as number n: the lowest-numbered FREE slot, and none
when n would repeat a stamp (R9). -/
def availableSlot (slots : Vector (Option Claim) 64) (n : CommitNo) : Option SlotNo :=
  if stampTaken slots n then none else (upTo 64).find? (fun i => slots[i].isNone)

/-- A WAITING claim of the pool has class equal to or higher than `k` (R38). -/
def waiterAhead (slots : Vector (Option Claim) 64) (p : PoolNo) (k : Fin 4) : Bool :=
  (claimsOf slots p .waiting).any (fun x => decide (k ≤ x.2.cls))

/-- A CLAIM (R38, R39). -/
def Work.claim (now : CommitNo) (sender : StationNo) (p : PoolNo) (units : BitVec 16) (k : Fin 4)
    (wait : Bool) (tag : Byte) (w : Work) : Work × Decision :=
  let pool := w.pools[p]
  if pool.capacity.toNat < units.toNat then (w, ⟨.tooLarge, none, .none⟩)
  else if Config.quota ≤ holdingCount w.slots sender then (w, ⟨.quota, none, .none⟩)
  else match availableSlot w.slots now with
  | none => (w, ⟨.full, none, .none⟩)
  | some i =>
    if fits pool units && !waiterAhead w.slots p k then
      (((w.setSlot i (some ⟨.held, sender, p, units, k, tag, now, some now, false⟩)).setPool p
        { pool with granted := pool.granted + units }).touch p, ⟨.held, some i, .none⟩)
    else if wait then
      ((w.setSlot i (some ⟨.waiting, sender, p, units, k, tag, now, none, false⟩)).setPool p
        { pool with waiting := pool.waiting + 1 }, ⟨.waiting, some i, .none⟩)
    else (w, ⟨.busy, none, .none⟩)

/-- The claim of a slot if its holder and tag match (R40, R41). -/
def matching (slots : Vector (Option Claim) 64) (sender : StationNo) (i : SlotNo) (tag : Byte) :
    Option Claim := slots[i].filter (fun c => c.holder == sender && c.tag == tag)

/-- A RELEASE (R40). -/
def Work.release (sender : StationNo) (i : SlotNo) (tag : Byte) (w : Work) : Work × Decision :=
  match matching w.slots sender i tag with
  | some c => ((w.free i c).touch c.pool, ⟨.released, some i, .none⟩)
  | none => (w, ⟨.stale, some i, .none⟩)

/-- A TRIM (R41). -/
def Work.trim (sender : StationNo) (i : SlotNo) (tag : Byte) (units : BitVec 16) (w : Work) :
    Work × Decision :=
  match matching w.slots sender i tag with
  | none => (w, ⟨.stale, some i, .none⟩)
  | some c =>
    if c.units.toNat ≤ units.toNat then (w, ⟨.range, some i, .none⟩)
    else
      let pool := w.pools[c.pool]
      let trimmed : Pool := match c.state with
        | .held => { pool with granted := pool.granted - (c.units - units) }
        | .waiting => pool
      (((w.setSlot i (some { c with units := units })).setPool c.pool trimmed).touch c.pool,
        ⟨.trimmed, some i, .none⟩)

/-- A WAITING claim that can never fit the new capacity is ejected (R42). -/
def ejectsWaiter (slots : Vector (Option Claim) 64) (p : PoolNo) (capacity : BitVec 16)
    (i : SlotNo) : Bool :=
  slots[i].any fun c => c.pool == p && c.state == .waiting && decide (capacity.toNat < c.units.toNat)

/-- The first phase of a SETCAP (R42): the capacity is set and the waiters that cannot fit are
ejected. The number ejected comes with it. -/
def Work.setCapacity (me : StationNo) (p : PoolNo) (capacity : BitVec 16) (w : Work) : Work × Nat :=
  let n := countOver 64 (ejectsWaiter w.slots p capacity)
  ({ w with
      pools := put w.pools p
        { w.pools[p] with capacity := capacity, waiting := w.pools[p].waiting - n }
      slots := tab fun i => if ejectsWaiter w.slots p capacity i then none else w.slots[i]
      marks := tab fun i =>
        if ejectsWaiter w.slots p capacity i && w.slots[i].any (fun c => c.holder == me)
        then some .ejected else w.marks[i] }, n)

/-- One victim of a SETCAP (R43): ejected when its units exceed the capacity, else bumped. -/
def Work.takeVictim (me : StationNo) (p : PoolNo) (capacity : BitVec 16) (i : SlotNo) (c : Claim)
    (w : Work) : Work :=
  if capacity.toNat < c.units.toNat then (w.free i c).mark me c i .ejected
  else
    let pool := w.pools[p]
    ((w.setSlot i (some { c with state := .waiting, bumped := true })).setPool p
      { pool with granted := pool.granted - c.units, waiting := pool.waiting + 1 }).mark me c i
      .bumped

/-- The victim loop (R43): while granted exceeds the capacity, the first HELD claim in victim order
is taken. It counts bumped and ejected claims. A pool has at most 64 HELD claims, so 64 rounds
reach its end. -/
def Work.shed (me : StationNo) (now : CommitNo) (p : PoolNo) (capacity : BitVec 16) :
    Nat → Work × Nat × Nat → Work × Nat × Nat
  | 0, r => r
  | fuel + 1, (w, bumped, ejected) =>
    if w.pools[p].granted.toNat ≤ capacity.toNat then (w, bumped, ejected)
    else match victimLine now w.slots p with
    | [] => (w, bumped, ejected)
    | (i, c) :: _ =>
      if capacity.toNat < c.units.toNat then
        Work.shed me now p capacity fuel (w.takeVictim me p capacity i c, bumped, ejected + 1)
      else Work.shed me now p capacity fuel (w.takeVictim me p capacity i c, bumped + 1, ejected)

/-- A SETCAP (R42 to R44). -/
def Work.setcap (me : StationNo) (now : CommitNo) (p : PoolNo) (capacity : BitVec 16) (w : Work) :
    Work × Decision :=
  let (w1, waiters) := w.setCapacity me p capacity
  let (w2, bumped, ejected) := Work.shed me now p capacity 64 (w1, 0, waiters)
  (w2.touch p, ⟨.capacitySet, none, .counts bumped ejected⟩)

/-! ### Steps 4 and 5: admission (R35 to R37) -/

/-- One claim is admitted: HELD with its held-stamp the commit being applied (R35). -/
def Work.admitClaim (me : StationNo) (now : CommitNo) (p : PoolNo) (i : SlotNo) (c : Claim)
    (w : Work) : Work :=
  let pool := w.pools[p]
  ((w.setSlot i (some { c with state := .held, heldStamp := some now })).setPool p
    { pool with granted := pool.granted + c.units, waiting := pool.waiting - 1 }).mark me c i
    .admitted

/-- An admission pass (R35): the head of the wait line is admitted while it fits. A pool has at
most 64 WAITING claims, so 64 rounds reach its end. -/
def Work.pass (me : StationNo) (now : CommitNo) (p : PoolNo) : Nat → Work → Work
  | 0, w => w
  | fuel + 1, w =>
    match waitLine now w.slots p with
    | [] => w
    | (i, c) :: _ =>
      if fits w.pools[p] c.units then Work.pass me now p fuel (w.admitClaim me now p i c) else w

/-- Step 4 for one pool (R30): a touched pool has its admission-due flag set under freeze-after
(R36), and else receives its pass (R35). -/
def Work.admissionFor (me : StationNo) (now : CommitNo) (freezeAfter : Bool) (w : Work)
    (p : PoolNo) : Work :=
  if w.touched[p] then
    if freezeAfter then w.setPool p { w.pools[p] with due := true } else w.pass me now p 64
  else w

/-- Step 5 for one pool (R37): an owed pass is run and its flag cleared. -/
def Work.owedFor (me : StationNo) (now : CommitNo) (w : Work) (p : PoolNo) : Work :=
  if w.pools[p].due then
    let passed := w.pass me now p 64
    passed.setPool p { passed.pools[p] with due := false }
  else w

/-- Steps 4 and 5, in ascending pool order. -/
def Work.admission (me : StationNo) (now : CommitNo) (freezeAfter freezeEnded : Bool) (w : Work) :
    Work :=
  let w4 := (upTo 8).foldl (fun v p => v.admissionFor me now freezeAfter p) w
  if freezeEnded then (upTo 8).foldl (fun v p => v.owedFor me now p) w4 else w4

/-! ### Step 3: snapshot records at their target (R132 to R136) -/

/-- The engine and the work of an application in progress. -/
structure Course where
  engine : Engine
  work : Work
  decision : Option Decision
  disagreed : Bool
  deriving DecidableEq, Repr

/-- A SNAP-HEAD at its target (R132): tables, history, notices and touched set cleared, horizon 0,
no pool installed, the replica current and not stale. The digest follows the tables at step 6. -/
def Course.installHead (c : Course) : Course :=
  { c with
    engine := { c.engine with
      history := [], historyRunning := false, stale := false, current := true, horizon := 0
      installed := Vector.replicate 8 false, notices := Vector.replicate 64 none }
    work := { c.work with
      pools := emptyPools, slots := emptySlots, touched := Vector.replicate 8 false
      marks := Vector.replicate 64 none } }

/-- A SNAP-CLAIM at its target (R133): the slots from the horizon up to the slot before it are
FREE, the slot is installed, FREE where the holder is in the drop set, and the horizon rises. -/
def Course.installClaim (drop : List StationNo) (s : SlotNo) (claim : Claim) (c : Course) : Course :=
  { c with
    engine := { c.engine with horizon := s.val + 1 }
    work := { c.work with
      slots := tab fun i =>
        if i = s then (if drop.contains claim.holder then none else some claim)
        else if c.engine.horizon ≤ i.val ∧ i.val < s.val then none
        else c.work.slots[i] } }

/-- A SNAP-POOL at its target (R134): its fields are installed, granted and waiting count lowered
by what step 1 of this application freed of the pool. -/
def Course.installPool (p : PoolNo) (f : Pool) (c : Course) : Course :=
  { c with
    engine := { c.engine with installed := put c.engine.installed p true }
    work := c.work.setPool p
      { f with
        granted := f.granted - BitVec.ofNat 16 c.work.freedUnits[p]
        waiting := f.waiting - c.work.freedWaiting[p] } }

/-- A SNAP-END at its target (R136): the horizon is 64 and the digest history starts. -/
def Course.installEnd (c : Course) : Course :=
  { c with engine := { c.engine with horizon := 64, historyRunning := true } }

/-! ### Step 3: the AUDIT (R45) -/

/-- A lookup in the digest history (R19). -/
def lookup (history : List (CommitNo × Digest)) (n : CommitNo) : Option Digest :=
  (history.find? (fun x => x.1 == n)).map (·.2)

/-- An AUDIT (R45): a disagreement writes the audit record. -/
def Course.audit (sender : StationNo) (n : CommitNo) (d : Digest) (c : Course) : Course :=
  match lookup c.engine.history n with
  | some own =>
    if own == d then c
    else { c with
      engine := { c.engine with auditRecord := some ⟨sender, n, own, d⟩ }, disagreed := true }
  | none => c

/-- The decision of an ordinary record made on the tables. -/
def Course.decide (c : Course) (r : Work × Decision) : Course :=
  { c with work := r.1, decision := some r.2 }

/-- Step 3: the record's effect (R38 to R48). -/
def Course.effect (me : StationNo) (e : ApplyEntry) (c : Course) : Course :=
  match e.record.body with
  | .join _ | .leave => c
  | .claim p units k wait tag =>
    c.decide (c.work.claim e.commit e.record.sender p units k wait tag)
  | .release slot tag => c.decide (c.work.release e.record.sender slot tag)
  | .trim slot tag units => c.decide (c.work.trim e.record.sender slot tag units)
  | .setcap p capacity => c.decide (c.work.setcap me e.commit p capacity)
  | .audit n d =>
    { c.audit e.record.sender n d with
      decision := some ⟨.audited, none, .distance (e.commit - n)⟩ }
  | .snapHead target _ _ _ => if target = me then c.installHead else c
  | .snapClaim target slot claim => if target = me then c.installClaim e.drop slot claim else c
  | .snapPool target p f => if target = me then c.installPool p f else c
  | .snapEnd target _ => if target = me then c.installEnd else c

/-! ### Steps 6 and 7, and the whole application -/

/-- A pair joins the tail of the digest history, the oldest leaving when it holds 16 (R18). -/
def appendHistory (history : List (CommitNo × Digest)) (x : CommitNo × Digest) :
    List (CommitNo × Digest) :=
  (if Config.historyMax ≤ history.length then history.drop 1 else history) ++ [x]

/-- Step 6 (R49): digest, engine commit counter and digest history. -/
def Engine.report (number : CommitNo) (w : Work) (e : Engine) : Engine :=
  let d := digestOf w.pools w.slots
  { e with
    pools := w.pools, slots := w.slots, digest := d, commit := number
    history := if e.historyRunning then appendHistory e.history (number, d) else e.history }

/-- Step 7 (R50): the entry of every slot marked takes its cause and the commit's number. -/
def Engine.markNotices (number : CommitNo) (marks : Vector (Option Cause) 64) (e : Engine) :
    Engine :=
  { e with notices := tab fun i => match marks[i] with
      | some cause => some ⟨cause, number⟩
      | none => e.notices[i] }

/-- Some notice was marked. -/
def anyMark (marks : Vector (Option Cause) 64) : Bool := (upTo 64).any fun i => marks[i].isSome

/-- The work at the beginning of an application. -/
def Engine.begin (e : Engine) : Work :=
  ⟨e.pools, e.slots, Vector.replicate 8 false, Vector.replicate 64 none, Vector.replicate 8 0,
   Vector.replicate 8 0⟩

/-- Whose claims step 1 frees: the drop set's, and a LEAVE sender's (R32). -/
def goneAt (e : ApplyEntry) (k : StationNo) : Bool :=
  e.drop.contains k || (e.record.body.kind == .leave && k == e.record.sender)

/-- The decision with a CLAIM's extra, the claim's state at the end of the application (R51). -/
def Decision.atEnd (slots : Vector (Option Claim) 64) (d : Decision) : Decision :=
  match d.outcome, d.slot with
  | .held, some i => { d with extra := ((slots[i]).map (fun c => Extra.claimState c.state)).getD .none }
  | .waiting, some i => { d with extra := ((slots[i]).map (fun c => Extra.claimState c.state)).getD .none }
  | _, _ => d

/-- What an application that took the seven steps leaves and reports. -/
structure Applied where
  engine : Engine
  decision : Option Decision
  noticed : Bool
  disagreed : Bool
  deriving DecidableEq, Repr

/-- The seven steps (R30, Table 10). -/
def Engine.applySteps (me : StationNo) (e : ApplyEntry) (g : Engine) : Applied :=
  let start : Course := ⟨g, g.begin.dropStep (goneAt e) g.horizon g.installed, none, false⟩
  let done := if e.isVoid then start else start.effect me e
  let w := done.work.admission me e.commit e.freezeAfter e.freezeEnded
  { engine := (done.engine.report e.commit w).markNotices e.commit w.marks
    decision := done.decision.map (·.atEnd w.slots)
    noticed := anyMark w.marks
    disagreed := done.disagreed }

/-- The founding application (R46): the replica takes its founding values. -/
def Engine.found (g : Engine) : Engine :=
  { g with
    pools := emptyPools, slots := emptySlots, digest := emptyDigest
    history := [(1#32, emptyDigest)], historyRunning := true, commit := 1#32
    notices := Vector.replicate 64 none, stale := false, current := true, horizon := 64
    installed := Vector.replicate 8 true }

end Sys2Proof.Machine
end

