-- ==== Sys2Proof/Machine/EngineTurns.lean ====
section
/-!
DEFINITION. The turns of the replica engine's arbiter (R52): applications, snapshot-record builds,
view copies and FIND steps.
-/
namespace Sys2Proof.Machine

/-! ### Applications (R29, R51) -/

/-- The completion of an applied own ordinary record (R51, R152): the head of the outcome list,
whose commit number is the entry's, leaves it and the completion is posted. -/
def State.complete (e : ApplyEntry) (decision : Option Decision) (s : State) : State :=
  if e.record.sender = s.me then
    match decision, s.request.outcomes with
    | some d, o :: rest =>
      if o.commit = e.commit then
        State.postReserved ⟨o.ref, o.kind, d.outcome, d.slot, d.extra, some e.commit⟩
          { s with request := { s.request with outcomes := rest } }
      else s
    | _, _ => s
  else s

/-- An application that takes the seven steps (R30), with its reports (R49 to R51, R187). -/
def State.applySteps (e : ApplyEntry) (s : State) : State :=
  let r := s.engine.applySteps s.me e
  State.complete e r.decision
    (((({ s with engine := r.engine } : State).setEventIf r.noticed .notice)).setEventIf
      r.disagreed .disagree)

/-- What an application does with its entry (R29, Table 9). -/
def State.applyEntry (e : ApplyEntry) (s : State) : State :=
  if e.record.body.kind = .join ∧ e.record.sender = s.me then
    if e.freezeAfter then s else { s with engine := s.engine.found }
  else if (e.record.body.kind = .snapHead ∧ e.record.addressedTo s.me = true ∧ e.isVoid = false) ∨
      s.engine.current = true then s.applySteps e
  else s

/-- An application takes the head of the apply queue (R25, R29). -/
def State.application (s : State) : State :=
  match s.bus.applyQueue with
  | [] => s
  | e :: rest =>
    State.choose (State.applyEntry e { s with bus := { s.bus with applyQueue := rest } })

/-! ### Snapshot-record builds (R55, R126) -/

/-- The lowest non-FREE slot at or above a slot number, with its claim (R55). -/
def nextClaim (slots : Vector (Option Claim) 64) (start : Nat) : Option (SlotNo × Claim) :=
  ((upTo 64).find? (fun i => decide (start ≤ i.val) && slots[i].isSome)).bind
    (fun i => slots[i].map (fun c => (i, c)))

/-- The SNAP-POOL for a pool as the replica holds it. -/
def poolRecord (target : StationNo) (pools : Vector Pool 8) (p : PoolNo) : Body :=
  .snapPool target p pools[p]

/-- The record built for a target and the cursor after the build (R126). -/
def State.buildFor (target : StationNo) (s : State) : Option (Cursor × Body) :=
  let c := s.request.cursor
  match c.phase with
  | .idle => none
  | .head =>
    some (c, .snapHead target (s.engine.commit + 1#32) s.bus.roster s.bus.syncList)
  | .claims =>
    match nextClaim s.engine.slots c.nextSlot with
    | some (i, claim) => some (c, .snapClaim target i claim)
    | none => some ({ c with phase := .pools, nextPool := 0 }, poolRecord target s.engine.pools 0)
  | .pools =>
    if h : c.nextPool < 8 then some (c, poolRecord target s.engine.pools ⟨c.nextPool, h⟩) else none
  | .finish => some (c, .snapEnd target c.count)

/-- A snapshot-record build (R125, R126): the built record becomes the chosen own record. -/
def State.build (s : State) : State :=
  if s.buildWanted then
    match s.request.cursor.target.bind (fun t => s.buildFor t) with
    | some (cursor, body) =>
      { s with request := { s.request with
          cursor := cursor, own := some (Own.fresh (.snapshot body)) } }
    | none => s
  else s

/-! ### View copies (R54, R162) -/

/-- The contents of the item a selection names (R161, R162, Table 48). -/
def State.viewItem (sel : Byte) (s : State) : List Byte :=
  if h : sel.toNat < 64 then slotItem s.engine.slots[sel.toNat]
  else if h : sel.toNat - 64 < 8 then poolItem s.engine.pools[sel.toNat - 64]
  else if sel = 0x48#8 then rosterItem s.bus.roster s.bus.joinCommit
  else syncListItem s.bus.syncList (donorOf s.bus.roster s.bus.syncList)

/-- A view copy (R54, R162): the item code, the engine commit counter and the item. -/
def State.copyView (s : State) : State :=
  match s.engine.viewPending with
  | some sel =>
    if s.viewTurn then
      { s with engine := { s.engine with
          viewPending := none
          viewBuffer := [sel] ++ bytes32 s.engine.commit ++ s.viewItem sel } }
    else s
  | none => s

/-! ### FIND steps (R164, R166) -/

/-- A holder or pool filter admits a number: it equals it, or stands for any (R164). -/
def filterAdmits (filter : Byte) (n : Nat) : Bool := decide (8 ≤ filter.toNat) || filter.toNat == n

/-- A slot matches the copied filter (R164). -/
def FindFilter.matchesSlot (f : FindFilter) (slot : Option Claim) : Bool :=
  match slot with
  | none => f.masks.getLsbD 0 && decide (8 ≤ f.holder.toNat) && decide (8 ≤ f.pool.toNat)
  | some c =>
    (match c.state with
      | .held => f.masks.getLsbD 1
      | .waiting => f.masks.getLsbD 2) &&
    f.masks.getLsbD (4 + c.cls.val) && filterAdmits f.holder c.holder.val &&
    filterAdmits f.pool c.pool.val

/-- One FIND step at slot `i` (R166): the scan ends COMPLETE after its last slot, FULL with its
eighth match before that, and else goes on at the next slot. -/
def State.scanSlot (scan : Scan) (i : SlotNo) (s : State) : State :=
  let found := if scan.filter.matchesSlot s.engine.slots[i] then scan.found ++ [i] else scan.found
  let commit := scan.commit.getD s.engine.commit
  let stepped : Scan := ⟨scan.filter, i.val + 1, found, some commit⟩
  if scan.filter.lastSlot ≤ i.val then s.endScan .complete stepped commit
  else if Config.findMax ≤ found.length then s.endScan .full stepped commit
  else { s with engine := { s.engine with scan := some stepped } }

/-- A FIND step (R52, R166). -/
def State.findStep (s : State) : State :=
  match s.engine.scan with
  | some scan =>
    if s.findTurn then
      if h : scan.next < 64 then s.scanSlot scan ⟨scan.next, h⟩
      else s.endScan .complete scan (scan.commit.getD s.engine.commit)
    else s
  | none => s

end Sys2Proof.Machine
end

