-- ==== Sys2Proof/Machine/Arbitration.lean ====
section
/-!
DEFINITION. Arbitration, record starts, transfers and restart episodes (R61 to R69, R79 to R83).
-/
namespace Sys2Proof.Machine

/-- An open record shows an exclusive kind (R61). -/
def OpenRecord.exclusive (o : OpenRecord) : Bool :=
  ((o.bytes.head?.bind kindOfCode).map Kind.exclusive).getD false

/-- The bus is free to start (R61); `thr` is THR as other stations drive it. -/
def State.freeToStart (thr : Bool) (s : State) : Bool :=
  !thr && !s.thrDriven && !s.bus.restart && !s.bus.mrsDrive && s.bus.inTransfer.isNone &&
  decide (s.bus.openList.length < Config.openListMax) &&
  !s.bus.openList.any OpenRecord.exclusive

/-- The winner of a round: the first station with REQ asserted, counting upward from the turn
pointer + 1 and wrapping from 7 to 0 (R64). -/
def winnerOf (turn : StationNo) (lines : BitVec 8) : Option StationNo :=
  ((upTo 8).map (fun i => turn + 1 + i)).find? (fun k => lineOf lines k)

/-- The REQ lines as this station sees them: the others' and its own (R64). -/
def State.reqLines (req : BitVec 8) (s : State) : BitVec 8 :=
  if s.reqDriven then req ||| onlyLine s.me else req

/-- A SNAP-END addressed to this station stands in the apply queue: it has committed and is not applied
yet (R25, R136). -/
def State.snapEndWaits (s : State) : Bool :=
  s.bus.applyQueue.any (fun e => e.record.body.kind == .snapEnd && e.record.addressedTo s.me)

/-- The engine applies entries of the queue until no SNAP-END addressed to this station waits; at
most `n` of them. -/
def State.applyThroughSnapEnd : Nat → State → State
  | 0, s => s
  | n + 1, s => if s.snapEndWaits then State.applyThroughSnapEnd n s.application else s

/-- The own record is the entry AUDIT (R138, R147). -/
def State.ownIsEntryAudit (s : State) : Bool :=
  match s.request.own with
  | some o =>
    match o.what with
    | .ordinary _ entry => entry
    | .join | .leave | .snapshot _ => false
  | none => false

/-- What the engine has done at the latest when the own record wins. R147 and R62 let the entry AUDIT
be chosen and assert REQ from the SNAP-END's commit on, and R138 puts the N of its win at or after
that commit: the applications up to the SNAP-END's come before such a win (the order is DEDUCED,
log entry 26). Every other win finds the engine as it stands. -/
def State.beforeWin (s : State) : State :=
  if s.ownIsEntryAudit then s.applyThroughSnapEnd s.bus.applyQueue.length else s

/-- The body an own record takes at its win (R66): a JOIN the site code, an AUDIT the engine commit
counter and the digest of that instant, a snapshot record its built contents. -/
def State.winBody (s : State) (what : OwnWhat) : Body :=
  match what with
  | .join => .join s.host.site
  | .leave => .leave
  | .ordinary r _ => r.demand.body s.engine.commit s.engine.digest
  | .snapshot b => b

/-- The win of the own record (R66, R149): it is on the bus with its contents fixed, and at its
first win a request leaves the head of the LRQ. -/
def State.win (s : State) : State :=
  match s.request.own with
  | some o =>
    let fromLrq := match o.what with
      | .ordinary _ entry => !entry && !o.won
      | .join | .leave | .snapshot _ => false
    { s with request := { s.request with
        own := some { o with
          cond := .onBus, won := true
          contents := Record.bytes ⟨s.me, s.winBody o.what⟩ }
        lrq := if fromLrq then s.request.lrq.tail else s.request.lrq } }
  | none => s

/-- The start that follows a round is a violation (R80): no record starts, its sender differs from
the winner, or it is of an exclusive kind and the open list is not empty. -/
def startViolates (winner : StationNo) (started : Option (List Nibble)) (openList : List OpenRecord) :
    Bool :=
  match started with
  | none => true
  | some received =>
    senderDiffers received winner || (startExclusive received && !openList.isEmpty)

/-- A record starts (R65, R66, R96): it is in transfer, with the freeze noted, and the turn pointer
takes the number of the station whose record starts. `own` says that this station drives it. -/
def State.startTransfer (winner : StationNo) (own : Bool) (received : List Nibble) (s : State) :
    State :=
  { s with bus := { s.bus with
      turn := startStation received winner
      inTransfer := some ⟨winner, received, own, s.freeze, own, false⟩ } }

/-- A member answers a start that is a violation (R80, R81): it asserts MRS, and the record in
transfer will not join the open list. -/
def State.violated (s : State) : State :=
  State.assertMrs { s with bus := { s.bus with
    inTransfer := s.bus.inTransfer.map (fun t => { t with barred := true }) } }

/-- What follows the win of `winner`: the record starts, and a member asserts MRS where the start
is a violation (R80); nothing starts where neither the lines nor this station show a record. -/
def State.recordStarts (winner : StationNo) (own : Bool) (started : Option (List Nibble))
    (s : State) : State :=
  let after :=
    if started.isNone && !own then s else s.startTransfer winner own (started.getD [])
  if s.detects && startViolates winner started s.bus.openList then after.violated else after

/-- An arbitration round (R64). No round is taken while the bus is not free to start or no REQ line
is asserted, nor by a station that is not LOCKED and in step. The win of the entry AUDIT comes after
the application of its SNAP-END (R138). -/
def State.round (req : BitVec 8) (thr : Bool) (started : Option (List Nibble)) (s : State) : State :=
  if s.bus.locked && s.bus.inStep && s.freeToStart thr then
    match winnerOf s.bus.turn (s.reqLines req) with
    | none => s
    | some winner =>
      if winner == s.me && s.reqDriven then s.beforeWin.win.recordStarts winner true started
      else s.recordStarts winner false started
  else s

/-- Another station begins a record where none may start (R80): a member detects the violation, and
that record does not join the open list; a station in step that is no member follows the record
(log entry 24). The turn pointer takes the sender named (R65). Where a record is in transfer
already, that one stays in transfer. -/
def State.strayStart (started : List Nibble) (s : State) : State :=
  if s.bus.locked && s.bus.inStep && !s.bus.restart then
    let sender := startStation started s.bus.turn
    if s.bus.inTransfer.isSome then
      let after : State := { s with bus := { s.bus with turn := sender } }
      if s.detects then after.assertMrs else after
    else
      let after := s.startTransfer sender false started
      if s.detects then after.violated else after
  else s

/-- The received length in bytes; an odd number of nibbles fits no kind (R181). -/
def receivedLength (nibbles : List Nibble) : Nat :=
  if nibbles.length % 2 = 0 then nibbles.length / 2 else 0

/-- A transfer ends (R67, R68): a record of an allowed length joins the tail of the open list and
its window opens when none is in progress. Any other end is a violation at a member (R80), and at
another station the abort of its own record unless a restart episode begins at this event (R78). A
record whose start was the violation does not join the open list. -/
def State.endTransfer (rest : List Nibble) (mrs : Bool) (s : State) : State :=
  match s.bus.inTransfer with
  | none => s
  | some t =>
    if s.bus.locked && s.bus.inStep then
      let nibbles := t.received ++ rest
      let turn :=
        if (senderNibble t.received).isNone then startStation nibbles t.winner else s.bus.turn
      let off : State := { s with bus := { s.bus with inTransfer := none, turn := turn } }
      let fits := allowedLength (receivedLength nibbles) &&
        decide (s.bus.openList.length < Config.openListMax)
      let barred := t.barred || s.bus.mrsDrive
      if s.detects && (!fits || senderDiffers nibbles t.winner) then off.assertMrs
      else if fits && !barred then
        State.openWindow { off with bus := { off.bus with
          openList := s.bus.openList ++ [⟨bytesOfNibbles nibbles, t.own, t.frozen⟩] } }
      else if t.own && !mrs && !barred then (off.abortOwn true).choose
      else off
    else s

/-- An ACK line or FLT is asserted by another station (R80): a violation at a member that has no
check window in progress. -/
def State.strayAck (s : State) : State :=
  if s.detects && s.bus.window.isNone then s.assertMrs else s

/-- A restart episode begins (R82): every LOCKED station discards its uncommitted records; the own
record on the bus is restart-aborted. Committed state is left as it is. -/
def State.restartBegin (s : State) : State :=
  if s.bus.locked then
    let cleared : State := { s with bus := { s.bus with
      openList := [], inTransfer := none, window := none, restart := true } }
    (cleared.abortOwn false).choose
  else s

/-- A restart episode ends (R83): at every LOCKED station the turn pointer is 7, the station is in
step and RESTART is set. It has not ended while this station still asserts MRS. -/
def State.restartEnd (s : State) : State :=
  if s.bus.locked && !s.bus.mrsDrive then
    State.setEvent .restart { s with bus := { s.bus with
      turn := Config.turnReset, inStep := true, restart := false } }
  else s

end Sys2Proof.Machine
end

