-- ==== Sys2Proof/Machine/BusEvents.lean ====
section
/-!
DEFINITION. Family "share bus": ARBITRATION_ROUND, PRI_CHANGE, TRANSFER_END, CHECK_WINDOW_CLOSE,
MRS_RELEASE, RESTART_EPISODE_BEGIN, RESTART_EPISODE_END, RECORD_START_WITHOUT_ROUND,
ACK_OR_FLT_OUT_OF_WINDOW, and SYNC_TIMER_EXPIRY (R63 to R83, R114).
-/
namespace Sys2Proof.Machine

/-- ARBITRATION_ROUND (R64). -/
def execArbitrationRound (req : BitVec 8) (thr : Bool) (started : Option (List Nibble))
    (s : State) : Host.Outcome State Fault Refusal := .next (s.round req thr started)

/-- PRI_CHANGE (R63): stations with records of other than priority kinds release or assert their
REQ again by R62, as `reqDriven` reads the level. -/
def execPriChange (asserted : Bool) (s : State) : Host.Outcome State Fault Refusal :=
  .next { s with bus := { s.bus with priIn := asserted } }

/-- TRANSFER_END (R67). -/
def execTransferEnd (rest : List Nibble) (mrs : Bool) (s : State) :
    Host.Outcome State Fault Refusal := .next (s.endTransfer rest mrs)

/-- CHECK_WINDOW_CLOSE (R72). -/
def execCheckWindowClose (ack : BitVec 8) (flt : Bool) (s : State) :
    Host.Outcome State Fault Refusal := .next (s.closeWindow ack flt)

/-- MRS_RELEASE (R81): the restart interval is over and this station releases MRS. -/
def execMrsRelease (s : State) : Host.Outcome State Fault Refusal :=
  .next { s with bus := { s.bus with mrsDrive := false } }

/-- RESTART_EPISODE_BEGIN (R82). -/
def execRestartEpisodeBegin (s : State) : Host.Outcome State Fault Refusal := .next s.restartBegin

/-- RESTART_EPISODE_END (R83). -/
def execRestartEpisodeEnd (s : State) : Host.Outcome State Fault Refusal := .next s.restartEnd

/-- RECORD_START_WITHOUT_ROUND (R80). -/
def execRecordStartWithoutRound (started : List Nibble) (s : State) :
    Host.Outcome State Fault Refusal := .next (s.strayStart started)

/-- ACK_OR_FLT_OUT_OF_WINDOW (R80). -/
def execAckOrFltOutOfWindow (s : State) : Host.Outcome State Fault Refusal := .next s.strayAck

/-- SYNC_TIMER_EXPIRY (R114, R140): a SYNCING station whose timer runs enters LEAVING with reason
SYNC_TIMEOUT. A stopped timer does not expire. -/
def execSyncTimerExpiry (s : State) : Host.Outcome State Fault Refusal :=
  .next (match s.control.syncTimer with
    | .running _ =>
      if s.control.station = .syncing then s.enterLeaving .syncTimeout else s
    | .stopped => s)

end Sys2Proof.Machine
end

