-- ==== Sys2Proof/Machine/HostAccess.lean ====
section
/-!
DEFINITION. The host port: SPI frames, the writes of the register window, CONTROL, request
submission, the port reads and latches, and what every register reads (spec/08 to spec/10, R141 to
R145, R107 to R110, R150).
-/
namespace Sys2Proof.Machine

/-! ### The SPI frame (R179) -/

/-- The end of a frame: CS is released, a partial request is discarded, every port pointer is at
its first byte, no latch is kept, and SDO is not driven (R141, R145, R179, R186). -/
def HostPort.endFrame (h : HostPort) : HostPort :=
  { h with
    selected := false, frame := none, sdo := none, requestBytes := [], compRead := none
    noticeRead := none, viewRead := none, findRead := none, auditRead := none
    eventsLatch := none, commitLatch := none }

/-- CS is asserted: a frame begins with every port at its first byte and no latch, and SDO is
driven, carrying 00h during the command byte (R179, R186). -/
def HostPort.beginFrame (h : HostPort) : HostPort :=
  { h.endFrame with selected := true, sdo := some 0x00#8 }

/-- The command byte: bit 7 chooses the direction, 1 for read, and bits 6–0 give the start address;
SDO carries 00h (R179). -/
def HostPort.commandByte (value : Byte) (h : HostPort) : HostPort :=
  { h with frame := some ⟨value.msb, value.extractLsb' 0 7⟩, sdo := some 0x00#8 }

/-- The command byte of a frame that begins in a direction at an address (R179). -/
def commandFor (read : Bool) (a : Addr) : Byte := BitVec.ofBool read ++ a

/-- A data byte reaches an address: in the frame in progress when that is its direction and current
address; else CS has been released and asserted and a command byte has led there (DESIGN CHOICE,
log entry 5). -/
def State.reach (read : Bool) (a : Addr) (s : State) : State :=
  if s.host.frame = some ⟨read, a⟩ then s
  else { s with host := s.host.beginFrame.commandByte (commandFor read a) }

/-- After a data byte the current address moves and SDO has carried a byte (R179). -/
def State.moved (read : Bool) (a : Addr) (out : Byte) (s : State) : State :=
  { s with host := { s.host with
      selected := true, frame := some ⟨read, nextAddr a⟩, sdo := some out } }

/-! ### Commands (R107 to R110, R150, R177) -/

/-- LASTCMD is written (R177). -/
def State.setLastCmd (l : LastCmd) (s : State) : State :=
  { s with host := { s.host with lastCmd := l } }

/-- START is accepted in CONFIG or OUTSIDE while LOCKED (R107). -/
def State.startAccepted (s : State) : Bool :=
  (s.control.station == .config || s.control.station == .outside) && s.bus.locked

/-- START (R108). -/
def State.commandStart (s : State) : State :=
  if s.startAccepted then
    State.choose { s.setLastCmd ⟨.start, true, 0⟩ with
      control := { s.control with station := .joining, leaveHeld := false } }
  else s.setLastCmd ⟨.start, false, 0⟩

/-- The JOIN has won in its current offering (R109). -/
def State.joinWon (s : State) : Bool := (s.ownOnBus.map (·.what)) == some .join

/-- LEAVE (R109). -/
def State.commandLeave (s : State) : State :=
  match s.control.station with
  | .active | .syncing => (s.setLastCmd ⟨.leave, true, 0⟩).enterLeaving .left
  | .joining =>
    if s.joinWon then
      { s.setLastCmd ⟨.leave, true, 0⟩ with control := { s.control with leaveHeld := true } }
    else s.enterOutside .left (fun n => ⟨.leave, true, n⟩)
  | .config | .outside | .leaving => s.setLastCmd ⟨.leave, false, 0⟩

/-- The LRQ head is the chosen own record and has not won (R146, R148). -/
def State.headChosen (s : State) : Bool :=
  match s.request.own with
  | some o =>
    match o.what with
    | .ordinary _ entry => !entry && !o.won && o.cond == .chosen
    | .join | .leave | .snapshot _ => false
  | none => false

/-- WITHDRAW (R150): every request of the LRQ, none of which has won, is removed; a chosen head
gives its place back, and a new choice follows at once. -/
def State.commandWithdraw (s : State) : State :=
  let freed := if s.headChosen then s.clearOwn.releasePlace else s
  State.choose { freed.setLastCmd ⟨.withdraw, true, s.request.lrq.length⟩ with
    request := { freed.request with lrq := [] } }

/-- A write to CONTROL is one command, taken at the write (R107, Table 30). -/
def State.command (value : Byte) (s : State) : State :=
  if value = 0x01#8 then s.commandStart
  else if value = 0x02#8 then s.commandLeave
  else if value = 0x03#8 then s.commandWithdraw
  else if value = 0x04#8 then s.softReset
  else s.setLastCmd ⟨.other, false, 0⟩

/-! ### Other writes -/

/-- A byte written to SITE (R102). -/
def State.siteByte (high : Bool) (value : Byte) (s : State) : State :=
  if s.control.station = .config then
    { s with host := { s.host with site := replaceByte high value s.host.site } }
  else s

/-- A byte written to EVENTS (R173). -/
def State.eventsByte (high : Bool) (value : Byte) (s : State) : State :=
  { s with host := { s.host with events := clearFlags high value s.host.events } }

/-- A byte written to EVMASK (R174). -/
def State.maskByte (high : Bool) (value : Byte) (s : State) : State :=
  { s with host := { s.host with mask := writeMask high value s.host.mask } }

/-- A write to VIEW_SEL (R161): 00h to 49h makes the selection pending. -/
def State.selectView (value : Byte) (s : State) : State :=
  if value.toNat ≤ viewSelLast.toNat then
    { s with engine := { s.engine with viewPending := some value } }
  else s

/-- FIND_GO (R165). -/
def State.findGo (s : State) : State :=
  match s.engine.scan with
  | some _ => s
  | none =>
    let f := s.host.find
    if f.first.toNat ≤ f.lastSlot then
      { s with engine := { s.engine with
          scan := some ⟨f, f.first.toNat, [], none⟩
          findResult := ⟨.running, f.first, [], s.engine.commit⟩ } }
    else
      State.setEvent .findDone { s with engine := { s.engine with
        findResult := ⟨.emptyWindow, f.first, [], s.engine.commit⟩ } }

/-- A submitted request: discarded with OVERRUN, refused with FORMAT, or appended to the LRQ
(R142). -/
def State.submit (bytes : List Byte) (s : State) : State :=
  if Config.lrqMax ≤ s.request.lrq.length then s.setEvent .overrun
  else match parseRequest bytes with
  | none =>
    if 0 < s.request.freePlaces then
      s.post ⟨byteAt bytes 1, byteAt bytes 0, .format, none, .none, none⟩
    else s.setEvent .overrun
  | some r =>
    State.choose { s with request := { s.request with lrq := s.request.lrq ++ [r] } }

/-- A byte written at REQ_PORT fills the byte the pointer names; the eighth submits the request
(R141). -/
def State.requestByte (value : Byte) (s : State) : State :=
  let bytes := s.host.requestBytes ++ [value]
  if bytes.length < 8 then { s with host := { s.host with requestBytes := bytes } }
  else State.submit bytes { s with host := { s.host with requestBytes := [] } }

/-- What a byte written at an address does (R179, R180, Table 39). Writes to read-only and
unassigned addresses are ignored. -/
def State.writeEffect (a : Addr) (value : Byte) (s : State) : State :=
  match a.toNat with
  | 0x06 => s.siteByte false value
  | 0x07 => s.siteByte true value
  | 0x08 => s.command value
  | 0x0C => s.eventsByte false value
  | 0x0D => s.eventsByte true value
  | 0x0E => s.maskByte false value
  | 0x0F => s.maskByte true value
  | 0x12 => s.requestByte value
  | 0x15 => s.selectView value
  | 0x17 => { s with host := { s.host with find := { s.host.find with first := value } } }
  | 0x18 => { s with host := { s.host with find := { s.host.find with last := value } } }
  | 0x19 => { s with host := { s.host with find := { s.host.find with holder := value } } }
  | 0x1A => { s with host := { s.host with find := { s.host.find with pool := value } } }
  | 0x1B =>
    { s with host := { s.host with find := { s.host.find with masks := value &&& findMaskBits } } }
  | 0x1C => s.findGo
  | _ => s

/-- One data byte written at an address (R179). SDO carries 00h in a write frame. -/
def State.write (a : Addr) (value : Byte) (s : State) : State :=
  ((s.reach false a).writeEffect a value).moved false a 0x00#8

/-! ### Port reads -/

/-- The tenth byte of a completion read at COMP_PORT (R145): the head leaves the queue, the pointer
returns to the first byte (R179), and the place that is free may allow a choice (R147). -/
def State.takeCompletion (s : State) : State :=
  State.choose { s with
    host := { s.host with compRead := none }
    request := { s.request with completions := s.request.completions.tail } }

/-- One byte read at COMP_PORT (R145): the first copies the head completion, the tenth removes it.
After the tenth byte of a completion the pointer returns to the first byte (R179). After the tenth
byte of the empty indication it does not: a completion posted meanwhile is read by the next frame
(R145), and the later bytes of the frame are 00h (DESIGN CHOICE, log entry 27). -/
def State.readCompletion (s : State) : State :=
  let r := s.reach true 0x13#7
  let p := r.host.compRead.getD ⟨r.request.completions.head?, 0⟩
  State.moved true 0x13#7 (byteAt (completionBytes p.latch) p.pointer)
    (if p.latch.isSome && decide (9 ≤ p.pointer) then r.takeCompletion
     else { r with host := { r.host with compRead := some ⟨p.latch, p.pointer + 1⟩ } })

/-- The lowest-numbered marked entry of the notice table (R170). -/
def firstNotice (notices : Vector (Option Notice) 64) : Option (SlotNo × Notice) :=
  ((upTo 64).find? (fun i => notices[i].isSome)).bind (fun i => notices[i].map (fun n => (i, n)))

/-- The take (R170): the entry copied is unmarked if it is still marked with the commit number
copied. -/
def takeNotice (latch : Option (SlotNo × Notice)) (notices : Vector (Option Notice) 64) :
    Vector (Option Notice) 64 :=
  match latch with
  | some (i, n) =>
    if notices[i].any (fun m => m.commit == n.commit) then put notices i none else notices
  | none => notices

/-- One byte read at NOTICE_PORT (R170): the first latches, the sixth takes. -/
def State.readNotice (s : State) : State :=
  let r := s.reach true 0x14#7
  let p := r.host.noticeRead.getD ⟨firstNotice r.engine.notices, 0⟩
  let out := byteAt (noticeBytes p.latch) p.pointer
  State.moved true 0x14#7 out { r with
    host := { r.host with noticeRead := some ⟨p.latch, p.pointer + 1⟩ }
    engine := { r.engine with
      notices := if p.pointer = 5 then takeNotice p.latch r.engine.notices else r.engine.notices } }

/-- One byte read at VIEW_PORT (R163). -/
def State.readView (s : State) : State :=
  let r := s.reach true 0x16#7
  let p := r.host.viewRead.getD ⟨r.engine.viewBuffer, 0⟩
  State.moved true 0x16#7 (byteAt p.latch p.pointer)
    { r with host := { r.host with
        viewRead := some ⟨p.latch, min (p.pointer + 1) p.latch.length⟩ } }

/-- One byte read at FIND_PORT (R167). -/
def State.readFind (s : State) : State :=
  let r := s.reach true 0x1D#7
  let p := r.host.findRead.getD ⟨r.engine.findResult, 0⟩
  State.moved true 0x1D#7 (byteAt p.latch.bytes p.pointer)
    { r with host := { r.host with findRead := some ⟨p.latch, p.pointer + 1⟩ } }

/-- One byte read at AUDIT_PORT (R169). -/
def State.readAudit (s : State) : State :=
  let r := s.reach true 0x1E#7
  let p := r.host.auditRead.getD ⟨r.engine.auditRecord, 0⟩
  State.moved true 0x1E#7 (byteAt (auditBytes p.latch) p.pointer)
    { r with host := { r.host with auditRead := some ⟨p.latch, p.pointer + 1⟩ } }

/-- The address of one byte of EVENTS. -/
def eventsAddr (high : Bool) : Addr := if high then 0x0D#7 else 0x0C#7

/-- One byte read of EVENTS (R172): the first read in the frame latches all positions. -/
def State.readEvents (high : Bool) (s : State) : State :=
  let r := s.reach true (eventsAddr high)
  let latch := r.host.eventsLatch.getD r.host.events
  State.moved true (eventsAddr high) (byteOf high latch)
    { r with host := { r.host with eventsLatch := some latch } }

/-- The address of one byte of COMMIT and DIGEST. -/
def commitAddr (offset : BitVec 3) : Addr := 0x4#4 ++ offset

/-- One byte read of the range 20h to 27h (R168): the first read in the frame latches both. -/
def State.readCommit (offset : BitVec 3) (s : State) : State :=
  let r := s.reach true (commitAddr offset)
  let latch := r.host.commitLatch.getD (r.engine.commit, r.engine.digest)
  State.moved true (commitAddr offset)
    (byteAt (bytes32 latch.1 ++ bytes32 latch.2) offset.toNat)
    { r with host := { r.host with commitLatch := some latch } }

/-! ### What the registers read (R180, Tables 39 to 42) -/

/-- The state code of STATE (Table 40). -/
def Controller.stateCode (c : Controller) : BitVec 3 :=
  match c.station with
  | .config => 0#3
  | .outside => 1#3
  | .joining => 2#3
  | .syncing => if c.phase == .awaiting then 3#3 else 4#3
  | .active => 5#3
  | .leaving => if c.phaseKept then 7#3 else 6#3

/-- STATE as it reads (Table 40). -/
def State.stateByte (s : State) : Byte :=
  BitVec.ofBool s.engine.stale ++ (BitVec.ofBool s.engine.viewPending.isSome ++
    (BitVec.ofBool s.isDonor ++ (BitVec.ofBool s.freeze ++
      (BitVec.ofBool s.bus.locked ++ s.control.stateCode))))

/-- What each address reads outside any latch: registers as they stand, and 00h for write-only,
port and unassigned addresses (R179, R180). -/
def State.peek (a : Addr) (s : State) : Byte :=
  match a.toNat with
  | 0x00 => byteAt Config.ident 0
  | 0x01 => byteAt Config.ident 1
  | 0x02 => byteAt Config.ident 2
  | 0x03 => byteAt Config.ident 3
  | 0x04 => s.stateByte
  | 0x05 => byteOfNat s.bus.station.val
  | 0x06 => byteOf false s.host.site
  | 0x07 => byteOf true s.host.site
  | 0x09 => s.host.lastCmd.byte
  | 0x0A => s.control.exitCause.byte
  | 0x0C => byteOf false s.host.events
  | 0x0D => byteOf true s.host.events
  | 0x0E => byteOf false s.host.mask
  | 0x0F => byteOf true s.host.mask
  | 0x10 => byteOfNat (Config.lrqMax - s.request.lrq.length)
  | 0x11 => byteOfNat s.request.completions.length
  | 0x17 => s.host.find.first
  | 0x18 => s.host.find.last
  | 0x19 => s.host.find.holder
  | 0x1A => s.host.find.pool
  | 0x1B => s.host.find.masks
  | n =>
    if 0x20 ≤ n ∧ n ≤ 0x27 then
      byteAt (bytes32 s.engine.commit ++ bytes32 s.engine.digest) (n - 0x20)
    else 0x00#8

/-! ### Bytes as they arrive on SPI (R179) -/

/-- One byte read at an address that is no read-only port and has no latch: what stands there, 00h
for write-only and unassigned addresses (R179, R180). -/
def State.readPlain (a : Addr) (s : State) : State :=
  let r := s.reach true a
  r.moved true a (r.peek a)

/-- One data byte read at an address (R179). -/
def State.read (a : Addr) (s : State) : State :=
  match a.toNat with
  | 0x0C => s.readEvents false
  | 0x0D => s.readEvents true
  | 0x13 => s.readCompletion
  | 0x14 => s.readNotice
  | 0x16 => s.readView
  | 0x1D => s.readFind
  | 0x1E => s.readAudit
  | n => if 0x20 ≤ n ∧ n ≤ 0x27 then s.readCommit (a.extractLsb' 0 3) else s.readPlain a

/-- CS is asserted (R179); while it is asserted it cannot be asserted again. -/
def State.select (s : State) : State :=
  if s.host.selected then s else { s with host := s.host.beginFrame }

/-- The next byte on SDI (R179): the first byte of a frame is its command byte, each later one a
data byte at the current address. While CS is released nothing is taken. -/
def State.spiByte (value : Byte) (s : State) : State :=
  if s.host.selected then
    match s.host.frame with
    | none => { s with host := s.host.commandByte value }
    | some f => if f.read then s.read f.addr else s.write f.addr value
  else s

end Sys2Proof.Machine
end

