-- ==== Sys2Proof/Machine/Control.lean ====
section
/-!
DEFINITION. Family "control commands": START, LEAVE, WITHDRAW, REINIT, CONTROL_OTHER, each a byte
written to CONTROL (R107 to R110, R150).
-/
namespace Sys2Proof.Machine

/-- The address of CONTROL (Table 39). -/
def controlAddr : Addr := 0x08#7

/-- START (R108): 01h written to CONTROL. -/
def execStart (s : State) : Host.Outcome State Fault Refusal := .next (s.write controlAddr 0x01#8)

/-- LEAVE (R109): 02h written to CONTROL. -/
def execLeave (s : State) : Host.Outcome State Fault Refusal := .next (s.write controlAddr 0x02#8)

/-- WITHDRAW (R150): 03h written to CONTROL. -/
def execWithdraw (s : State) : Host.Outcome State Fault Refusal :=
  .next (s.write controlAddr 0x03#8)

/-- REINIT (R110): 04h written to CONTROL. -/
def execReinit (s : State) : Host.Outcome State Fault Refusal := .next (s.write controlAddr 0x04#8)

/-- CONTROL_OTHER (R107): a value that names no command written to CONTROL. -/
def execControlOther (value : Byte) (s : State) : Host.Outcome State Fault Refusal :=
  .next (s.write controlAddr value)

end Sys2Proof.Machine
end

