-- ==== Sys2Proof/Machine/EngineEvents.lean ====
section
/-!
DEFINITION. Family "engine turns": APPLICATION, SNAPSHOT_BUILD, VIEW_COPY, FIND_STEP (R30, R52,
R54, R126, R166).
-/
namespace Sys2Proof.Machine

/-- APPLICATION (R30). With the apply queue empty there is nothing to apply. -/
def execApplication (s : State) : Host.Outcome State Fault Refusal := .next s.application

/-- SNAPSHOT_BUILD (R126). Nothing is built where no build is asked for (R125). -/
def execSnapshotBuild (s : State) : Host.Outcome State Fault Refusal := .next s.build

/-- VIEW_COPY (R54). The copy waits for its turn (R52). -/
def execViewCopy (s : State) : Host.Outcome State Fault Refusal := .next s.copyView

/-- FIND_STEP (R166). The step waits for its turn (R52). -/
def execFindStep (s : State) : Host.Outcome State Fault Refusal := .next s.findStep

end Sys2Proof.Machine
end

