-- ==== Sys2Proof/Machine/HostReads.lean ====
section
/-!
DEFINITION. Family "port reads", one data byte each: COMPLETION_TAKE, NOTICE_TAKE, VIEW_PORT_READ,
FIND_PORT_READ, AUDIT_PORT_READ, EVENTS_READ, COMMIT_DIGEST_READ (R145, R163, R167 to R170, R172).
-/
namespace Sys2Proof.Machine

/-- COMPLETION_TAKE (R145). -/
def execCompletionTake (s : State) : Host.Outcome State Fault Refusal := .next s.readCompletion

/-- NOTICE_TAKE (R170). -/
def execNoticeTake (s : State) : Host.Outcome State Fault Refusal := .next s.readNotice

/-- VIEW_PORT_READ (R163). -/
def execViewPortRead (s : State) : Host.Outcome State Fault Refusal := .next s.readView

/-- FIND_PORT_READ (R167). -/
def execFindPortRead (s : State) : Host.Outcome State Fault Refusal := .next s.readFind

/-- AUDIT_PORT_READ (R169). -/
def execAuditPortRead (s : State) : Host.Outcome State Fault Refusal := .next s.readAudit

/-- EVENTS_READ (R172). -/
def execEventsRead (high : Bool) (s : State) : Host.Outcome State Fault Refusal :=
  .next (s.readEvents high)

/-- COMMIT_DIGEST_READ (R168). -/
def execCommitDigestRead (offset : BitVec 3) (s : State) : Host.Outcome State Fault Refusal :=
  .next (s.readCommit offset)

end Sys2Proof.Machine
end

