-- ==== Sys2Proof/Machine/HostWrites.lean ====
section
/-!
DEFINITION. Family "register writes": SITE_WRITE, EVENTS_CLEAR, EVMASK_WRITE, VIEW_SEL, FIND_GO,
REGISTER_WRITE, REQUEST_SUBMIT, and the end of the frame (R102, R141, R142, R161, R165, R173, R174,
R179).
-/
namespace Sys2Proof.Machine

/-- SITE_WRITE (R102). -/
def execSiteWrite (high : Bool) (value : Byte) (s : State) : Host.Outcome State Fault Refusal :=
  .next (s.write (if high then 0x07#7 else 0x06#7) value)

/-- EVENTS_CLEAR (R173). -/
def execEventsClear (high : Bool) (value : Byte) (s : State) : Host.Outcome State Fault Refusal :=
  .next (s.write (if high then 0x0D#7 else 0x0C#7) value)

/-- EVMASK_WRITE (R174). -/
def execEvmaskWrite (high : Bool) (value : Byte) (s : State) : Host.Outcome State Fault Refusal :=
  .next (s.write (if high then 0x0F#7 else 0x0E#7) value)

/-- VIEW_SEL (R161). -/
def execViewSel (value : Byte) (s : State) : Host.Outcome State Fault Refusal :=
  .next (s.write 0x15#7 value)

/-- FIND_GO (R165). -/
def execFindGo (value : Byte) (s : State) : Host.Outcome State Fault Refusal :=
  .next (s.write 0x1C#7 value)

/-- REGISTER_WRITE (R179): the accesses with no row of their own, and the frame around them. -/
def execRegisterWrite (event : SpiEvent) (value : Byte) (s : State) : Host.Outcome State Fault Refusal :=
  .next (match event with
    | .select => s.select
    | .byte => s.spiByte value
    | .write addr => s.write addr value
    | .read addr => s.read addr)

/-- REQUEST_SUBMIT (R142). -/
def execRequestSubmit (value : Byte) (s : State) : Host.Outcome State Fault Refusal :=
  .next (s.write 0x12#7 value)

/-- SPI_FRAME_END (R179): CS is released. -/
def execSpiFrameEnd (s : State) : Host.Outcome State Fault Refusal :=
  .next { s with host := s.host.endFrame }

end Sys2Proof.Machine
end

