-- ==== Sys2Proof/Machine/Resets.lean ====
section
/-!
DEFINITION. Family "pins, lock and step": PIN_RESET, RESET_RELEASE, LOCK_GAIN, LOCK_LOSS,
QUIET_BUS (R57 to R60, R101).
-/
namespace Sys2Proof.Machine

/-- PIN_RESET (R60): every block takes its pin-reset state and every line is released. The queue of
commands and PRI as others drive it lie outside the part and stay. -/
def execPinReset (s : State) : Host.Outcome State Fault Refusal :=
  .next { State.reset with
    bus := { BusUnit.reset with priIn := s.bus.priIn }
    pending := s.pending }

/-- RESET_RELEASE (R101): the straps are sampled as the station number. -/
def execResetRelease (straps : BitVec 3) (s : State) : Host.Outcome State Fault Refusal :=
  .next { s with bus := { s.bus with station := ⟨straps.toNat, straps.isLt⟩ } }

/-- LOCK_GAIN (R57): LOCKED, with the open list empty, nothing in transfer, turn pointer 7, not in
step, and LOCK set. A bus unit that is LOCKED gains nothing. -/
def execLockGain (s : State) : Host.Outcome State Fault Refusal :=
  .next (if s.bus.locked then s
    else State.setEvent .lock { s with bus := { s.bus with
      locked := true, inStep := false, openList := [], inTransfer := none, window := none
      turn := Config.turnReset, restart := false } })

/-- The bus unit at the loss of lock (R58). -/
def BusUnit.loseLock (b : BusUnit) : BusUnit :=
  { b with
    locked := false, inStep := false, openList := [], inTransfer := none, window := none
    restart := false, mrsDrive := false }

/-- LOCK_LOSS (R58, R116): the bus unit stops at once, a JOINING station or a member enters OUTSIDE
with LOCK_LOST, and an own record that was on the bus is lost (R78, R155). -/
def execLockLoss (s : State) : Host.Outcome State Fault Refusal :=
  .next (if s.bus.locked then
      let off : State := State.setEvent .lock { s with bus := s.bus.loseLock }
      let out := if s.control.member || s.control.station == .joining
        then off.enterOutside .lockLost exitLastCmd else off
      out.endOwn .cancelled
    else s)

/-- QUIET_BUS (R59): a LOCKED bus unit that is not in step becomes in step with its open list empty
and nothing in transfer; the turn pointer keeps 7. -/
def execQuietBus (s : State) : Host.Outcome State Fault Refusal :=
  .next (if s.bus.locked && !s.bus.inStep then
      { s with bus := { s.bus with
        inStep := true, openList := [], inTransfer := none, window := none, restart := false } }
    else s)

end Sys2Proof.Machine
end

