-- ==== Sys2Proof/Machine/Dispatch.lean ====
section
/-!
DEFINITION. One arm for each command: a direct call of its meaning.
-/
namespace Sys2Proof.Machine

/-- The effect of a command on everything but the queue. -/
def exec (i : Instr) (s : State) : Host.Outcome State Fault Refusal :=
  match i with
  | .pinReset => Sys2Proof.Machine.execPinReset s
  | .resetRelease straps => Sys2Proof.Machine.execResetRelease straps s
  | .lockGain => Sys2Proof.Machine.execLockGain s
  | .lockLoss => Sys2Proof.Machine.execLockLoss s
  | .quietBus => Sys2Proof.Machine.execQuietBus s
  | .start => Sys2Proof.Machine.execStart s
  | .leave => Sys2Proof.Machine.execLeave s
  | .withdraw => Sys2Proof.Machine.execWithdraw s
  | .reinit => Sys2Proof.Machine.execReinit s
  | .controlOther value => Sys2Proof.Machine.execControlOther value s
  | .siteWrite high value => Sys2Proof.Machine.execSiteWrite high value s
  | .eventsClear high value => Sys2Proof.Machine.execEventsClear high value s
  | .evmaskWrite high value => Sys2Proof.Machine.execEvmaskWrite high value s
  | .viewSel value => Sys2Proof.Machine.execViewSel value s
  | .findGo value => Sys2Proof.Machine.execFindGo value s
  | .registerWrite event value => Sys2Proof.Machine.execRegisterWrite event value s
  | .requestSubmit value => Sys2Proof.Machine.execRequestSubmit value s
  | .completionTake => Sys2Proof.Machine.execCompletionTake s
  | .noticeTake => Sys2Proof.Machine.execNoticeTake s
  | .viewPortRead => Sys2Proof.Machine.execViewPortRead s
  | .findPortRead => Sys2Proof.Machine.execFindPortRead s
  | .auditPortRead => Sys2Proof.Machine.execAuditPortRead s
  | .eventsRead high => Sys2Proof.Machine.execEventsRead high s
  | .commitDigestRead offset => Sys2Proof.Machine.execCommitDigestRead offset s
  | .spiFrameEnd => Sys2Proof.Machine.execSpiFrameEnd s
  | .arbitrationRound req thr started => Sys2Proof.Machine.execArbitrationRound req thr started s
  | .priChange asserted => Sys2Proof.Machine.execPriChange asserted s
  | .transferEnd rest mrs => Sys2Proof.Machine.execTransferEnd rest mrs s
  | .checkWindowClose ack flt => Sys2Proof.Machine.execCheckWindowClose ack flt s
  | .mrsRelease => Sys2Proof.Machine.execMrsRelease s
  | .restartEpisodeBegin => Sys2Proof.Machine.execRestartEpisodeBegin s
  | .restartEpisodeEnd => Sys2Proof.Machine.execRestartEpisodeEnd s
  | .application => Sys2Proof.Machine.execApplication s
  | .snapshotBuild => Sys2Proof.Machine.execSnapshotBuild s
  | .viewCopy => Sys2Proof.Machine.execViewCopy s
  | .findStep => Sys2Proof.Machine.execFindStep s
  | .syncTimerExpiry => Sys2Proof.Machine.execSyncTimerExpiry s
  | .recordStartWithoutRound started => Sys2Proof.Machine.execRecordStartWithoutRound started s
  | .ackOrFltOutOfWindow => Sys2Proof.Machine.execAckOrFltOutOfWindow s

end Sys2Proof.Machine
end

