-- ==== Sys2Proof/Machine/Pins.lean ====
section
/-!
DEFINITION. The pins of the part and their levels (R186, Table 50), as functions of State: what a
station pulls low, what its SPI pins carry, and what a wired line shows.
-/
namespace Sys2Proof.Machine

/-- The pins of Table 50 but for supply and ground. -/
inductive Pin where
  | sid (bit : Fin 3)
  | reset
  | cs
  | sck
  | sdi
  | sdo
  | int
  | refclk
  | req (number : StationNo)
  | ack (number : StationNo)
  | pri
  | thr
  | flt
  | mrs
  | frm
  | data (bit : Fin 4)
  deriving DecidableEq, Repr

/-- The pins through which several stations, or several parts, pull one line low (Table 50). -/
def Pin.openDrain : Pin → Bool
  | .int | .req _ | .ack _ | .pri | .thr | .flt | .mrs | .frm | .data _ => true
  | .sid _ | .reset | .cs | .sck | .sdi | .sdo | .refclk => false

/-- The pins the part only takes in (Table 50). -/
def Pin.input : Pin → Bool
  | .sid _ | .reset | .cs | .sck | .sdi | .refclk => true
  | .sdo | .int | .req _ | .ack _ | .pri | .thr | .flt | .mrs | .frm | .data _ => false

/-- The nibble this station drives at position `i` of its record in transfer: the record won with,
low nibble of each byte first (R66, R181); none while it drives no record. -/
def State.drivenNibble (i : Nat) (s : State) : Option Nibble :=
  if s.dataDriven then (s.request.own.map (fun o => nibblesOfBytes o.contents)).bind (·[i]?)
  else none

/-- The part pulls a pin low (R186, Table 50): INT while it is asserted, the REQ and ACK of its own
strapped number and no other, the shared lines it asserts, FRM while it frames a record, and of
D0–D3 each bit that is 1 in the nibble it drives. `i` is the nibble of the transfer that passes. -/
def State.pullsLow (i : Nat) (pin : Pin) (s : State) : Bool :=
  match pin with
  | .int => s.intAsserted
  | .req number => number == s.me && s.reqDriven
  | .ack number => number == s.me && s.ackDriven
  | .pri => s.priDriven
  | .thr => s.thrDriven
  | .flt => s.fltDriven
  | .mrs => s.mrsDriven
  | .frm => s.dataDriven
  | .data bit => ((s.drivenNibble i).map (·.getLsbD bit.val)).getD false
  | .sid _ | .reset | .cs | .sck | .sdi | .sdo | .refclk => false

/-- The level of a wired line, high being true: low while any of the stations on it pulls it low
(R186). -/
def wiredHigh (i : Nat) (pin : Pin) (stations : List State) : Bool :=
  !stations.any (State.pullsLow i pin)

/-- What a level on an input pin or a wired line stands for (Table 50): on SID2–SID0 a high level is
1; every other line with an asserted level is asserted low, and on D0–D3 low carries a 1. -/
def Pin.asserted (pin : Pin) (high : Bool) : Bool :=
  match pin with
  | .sid _ => high
  | .reset | .cs | .int | .req _ | .ack _ | .pri | .thr | .flt | .mrs | .frm | .data _ => !high
  | .sck | .sdi | .sdo | .refclk => false

/-- SDO at bit `k` of the byte being moved, the most significant bit first (R179): driven while CS
is asserted, none while it is left undriven (R186). -/
def State.sdoLevel (k : Fin 8) (s : State) : Option Bool :=
  if s.host.selected then s.host.sdo.map (fun b => b.getMsbD k.val) else none

end Sys2Proof.Machine
end

