-- ==== Sys2Proof/WellFormed.lean ====
section
/-!
DEFINITION. Which commands are well formed: the row a byte written to the register window belongs
to, and the length of what is received on D0–D3. The meanings are total on ill-formed commands
too (a write is decided by its address and value, whichever row carries it).
-/
namespace Sys2Proof

/-- The values of CONTROL that name a command (R107, Table 30). -/
def namesCommand (value : Byte) : Bool :=
  value == 0x01#8 || value == 0x02#8 || value == 0x03#8 || value == 0x04#8

/-- The write addresses that have a row of their own: SITE, CONTROL, EVENTS, EVMASK, VIEW_SEL,
FIND_GO. REQ_PORT (12h) is not among them: the first seven bytes of a request are written by
REGISTER_WRITE, the eighth by REQUEST_SUBMIT (R141). -/
def hasOwnRow (addr : Addr) : Bool :=
  addr == 0x06#7 || addr == 0x07#7 || addr == 0x08#7 || addr == 0x0C#7 || addr == 0x0D#7 ||
  addr == 0x0E#7 || addr == 0x0F#7 || addr == 0x15#7 || addr == 0x1C#7

/-- The read addresses that have a row of their own: EVENTS, COMMIT and DIGEST, and the read-only
ports. -/
def hasReadRow (addr : Addr) : Bool :=
  addr == 0x0C#7 || addr == 0x0D#7 || addr == 0x13#7 || addr == 0x14#7 || addr == 0x16#7 ||
  addr == 0x1D#7 || addr == 0x1E#7 || addr.extractLsb' 3 4 == 0x4#4

/-- The nibbles of a record start reach at least to the sender field, the third nibble (R181). -/
def showsSender (started : List Nibble) : Bool := decide (3 ≤ started.length)

/-- A command is well formed when its operands belong to its row. -/
def Instr.wf : Instr → Bool
  | .controlOther value => !namesCommand value
  | .registerWrite (.write addr) _ => !hasOwnRow addr
  | .registerWrite (.read addr) _ => !hasReadRow addr
  | .arbitrationRound _ _ (some started) => showsSender started
  | .recordStartWithoutRound started => showsSender started
  | .registerWrite .select _ | .registerWrite .byte _
  | .arbitrationRound _ _ none | .pinReset | .resetRelease _ | .lockGain | .lockLoss | .quietBus
  | .start | .leave | .withdraw | .reinit | .siteWrite _ _ | .eventsClear _ _ | .evmaskWrite _ _
  | .viewSel _ | .findGo _ | .requestSubmit _ | .completionTake | .noticeTake | .viewPortRead
  | .findPortRead | .auditPortRead | .eventsRead _ | .commitDigestRead _ | .spiFrameEnd
  | .priChange _ | .transferEnd _ _ | .checkWindowClose _ _ | .mrsRelease | .restartEpisodeBegin
  | .restartEpisodeEnd | .application | .snapshotBuild | .viewCopy | .findStep
  | .syncTimerExpiry | .ackOrFltOutOfWindow => true

end Sys2Proof
end

