-- ==== Sys2Proof/Safety.lean ====
section
/-!
DEFINITION. What the statements speak of: frames (what a command leaves as it was), well-formed
records and claims, and the properties of State that every step keeps.
-/
namespace Sys2Proof.Machine

/-! ### Frames -/

/-- Nothing outside the host port differs. -/
def OnlyHost (s t : State) : Prop :=
  t.bus = s.bus ∧ t.engine = s.engine ∧ t.request = s.request ∧ t.control = s.control ∧
  t.pending = s.pending

/-- Nothing outside the host port and the request unit differs. -/
def OnlyHostAndRequest (s t : State) : Prop :=
  t.bus = s.bus ∧ t.engine = s.engine ∧ t.control = s.control ∧ t.pending = s.pending

/-- Nothing outside the bus unit differs. -/
def OnlyBus (s t : State) : Prop :=
  t.engine = s.engine ∧ t.request = s.request ∧ t.control = s.control ∧ t.host = s.host ∧
  t.pending = s.pending

/-- The registers of the host port are as they were; the frame and the ports may differ. -/
def HostRegistersKept (s t : State) : Prop :=
  t.host.site = s.host.site ∧ t.host.events = s.host.events ∧ t.host.mask = s.host.mask ∧
  t.host.lastCmd = s.host.lastCmd ∧ t.host.find = s.host.find

/-- The frame, the latches and the byte pointers of the ports are as they were. -/
def PortsKept (h g : HostPort) : Prop :=
  g.selected = h.selected ∧ g.frame = h.frame ∧ g.sdo = h.sdo ∧
  g.requestBytes = h.requestBytes ∧ g.compRead = h.compRead ∧ g.noticeRead = h.noticeRead ∧ g.viewRead = h.viewRead ∧ g.findRead = h.findRead ∧
  g.auditRead = h.auditRead ∧ g.eventsLatch = h.eventsLatch ∧ g.commitLatch = h.commitLatch

/-- Nothing differs but the SPI frame, the latches and the byte pointers. -/
def OnlyFrame (s t : State) : Prop := OnlyHost s t ∧ HostRegistersKept s t

/-- The host port is as it was but for its event flags, to which `flags` have been added. -/
def HostButEvents (s t : State) (flags : List Event) : Prop :=
  t.host = { s.host with
    events := flags.foldl (fun e x => e ||| (1#16 <<< x.position)) s.host.events }

/-- A data byte has been written at `a`: the current address has moved on, SDO carried 00h, and a
byte that did not continue the frame in progress found every port at its first byte. -/
def AfterWriteAt (a : Addr) (s t : State) : Prop :=
  t.host.frame = some ⟨false, nextAddr a⟩ ∧ t.host.sdo = some 0x00#8 ∧
  (s.host.frame ≠ some ⟨false, a⟩ → t.host.compRead = none ∧ t.host.noticeRead = none ∧
    t.host.viewRead = none ∧ t.host.findRead = none ∧ t.host.auditRead = none ∧
    t.host.eventsLatch = none ∧ t.host.commitLatch = none)

/-- The latch and pointer in effect when a byte is read at port address `a`: those kept in the
frame in progress, else the first byte of a new copy. -/
def portInEffect {α : Type} (a : Addr) (s : State) (kept : Option (PortRead α)) (copy : α) :
    PortRead α :=
  if s.host.frame = some ⟨true, a⟩ then kept.getD ⟨copy, 0⟩ else ⟨copy, 0⟩

/-! ### The work of an application -/

/-- What the steps of an application leave in the tables and hand on (R30): the frees of step 1, the
record's effect unless the commit is void (R33), and the admission of steps 4 and 5. -/
def workOf (me : StationNo) (e : ApplyEntry) (g : Engine) : Work :=
  let start : Course := ⟨g, g.begin.dropStep (goneAt e) g.horizon g.installed, none, false⟩
  (if e.isVoid then start else start.effect me e).work.admission me e.commit e.freezeAfter
    e.freezeEnded

/-! ### Well-formed claims and records -/

/-- A claim as R5 and R8 allow: at least one unit, and a held-stamp exactly where R8 has one. -/
def Claim.formed (c : Claim) : Bool :=
  c.units != 0#16 && c.heldStamp.isSome == heldStampPresent c.state c.bumped

/-- A record whose fields are in range (R84, R95, Table 23). -/
def Record.formed (r : Record) : Bool :=
  match r.body with
  | .claim _ units _ _ _ => units != 0#16
  | .trim _ _ units => units != 0#16
  | .snapHead _ _ _ list => decide (list.length ≤ Config.syncListMax) && decide list.Nodup
  | .snapClaim _ _ c => c.formed
  | .snapPool _ _ f => decide (f.granted.toNat ≤ f.capacity.toNat) && decide (f.waiting ≤ 64)
  | .snapEnd _ count => decide (count ≤ 64)
  | .join _ | .leave | .release _ _ | .setcap _ _ | .audit _ _ => true

/-! ### Properties that every step keeps -/

/-- Positions of EVENTS, EVMASK and FIND_MASKS that carry nothing read 0 (R172, R174, Table 42). -/
def State.reservedRead0 (s : State) : Prop :=
  s.host.events &&& ~~~ flagPositions = 0#16 ∧ s.host.mask &&& ~~~ flagPositions = 0#16 ∧
  s.host.find.masks.getLsbD 3 = false

/-- The digest is the function of the tables (R14, R15). -/
def State.digestFollows (s : State) : Prop :=
  s.engine.digest = digestOf s.engine.pools s.engine.slots

/-- The places that own records have reserved (R144): one for an ordinary own record, one for a
held record, one for each entry of the outcome list. -/
def RequestUnit.placesDue (r : RequestUnit) : Nat :=
  (match r.own with
    | some o => match o.what with
      | .ordinary _ _ => 1
      | .join | .leave | .snapshot _ => 0
    | none => 0) +
  (match r.held with
    | some _ => 1
    | none => 0) + r.outcomes.length

/-- The reserved places are those of the own, the held and the committed records, they and the
completions held never exceed 8 (R144), and a held record is ordinary and stands beside no other
ordinary record (R146). -/
def State.placesInStep (s : State) : Prop :=
  s.request.reserved = s.request.placesDue ∧
  s.request.completions.length + s.request.reserved ≤ Config.completionMax ∧
  (∀ o, s.request.held = some o → (∃ r e, o.what = .ordinary r e) ∧
    ∀ p, s.request.own = some p → ∀ r e, p.what ≠ .ordinary r e)

/-- The entries the apply queue holds, and those that the records open or in transfer can still add
to it. A record whose start is a violation never commits (R26, R80). -/
def BusUnit.entriesToCome (b : BusUnit) : Nat :=
  b.applyQueue.length + b.openList.length + (if b.inTransfer.any (fun t => !t.barred) then 1 else 0)

/-- The lists keep their bounds: apply queue with the records that can still join it (R25, R26), open
list (R68), LRQ (R143), digest history (R18), bytes of a request (R141), horizon (R131), a running
scan and the FIND result (R166, R167). -/
def State.listsBounded (s : State) : Prop :=
  s.bus.entriesToCome ≤ Config.applyQueueMax ∧
  s.bus.openList.length ≤ Config.openListMax ∧
  s.request.lrq.length ≤ Config.lrqMax ∧
  s.engine.history.length ≤ Config.historyMax ∧
  s.host.requestBytes.length ≤ 7 ∧
  s.engine.horizon ≤ 64 ∧
  s.engine.findResult.found.length ≤ Config.findMax ∧
  (∀ scan, s.engine.scan = some scan → scan.next ≤ 63 ∧ scan.found.length < Config.findMax)

/-- FREEZE is set where the freeze has begun or ended (R76); where this station has become donor,
or ceased to be, DONATION is set and the cursor is at HEAD or IDLE; where it stays donor and the head
has changed, the cursor is at HEAD for the new head (R122, R124). -/
def FreezeAndDonationFollow (s t : State) : Prop :=
  (s.freeze ≠ t.freeze → t.host.flag .freeze = true) ∧
  (s.isDonor ≠ t.isDonor → t.host.flag .donation = true) ∧
  (t.isDonor = true → s.isDonor = false ∨ s.bus.syncList.head? ≠ t.bus.syncList.head? →
    t.request.cursor = ⟨t.bus.syncList.head?, .head, 0, 0, 0⟩) ∧
  (s.isDonor = true → t.isDonor = false →
    t.request.cursor.target = none ∧ t.request.cursor.phase = .idle)

/-- Every record that the station has acknowledged or numbered is well formed. -/
def State.recordsFormed (s : State) : Prop :=
  (∀ r, s.bus.window = some (.ack r) → r.formed = true) ∧
  (∀ e, e ∈ s.bus.applyQueue → e.record.formed = true)

/-- Every claim of the table has units and its held-stamp as R5 and R8 say. -/
def State.claimsFormed (s : State) : Prop :=
  ∀ i : SlotNo, ∀ c, s.engine.slots[i] = some c → c.formed = true

/-- A station that is no member drives no line in a window and holds nothing of the group: no apply
entry, no roster, no sync list, no cursor, a tracker in IDLE, a stopped sync timer and a replica
that is not current (R25, R27, R29, R104, R117, R124, R140). -/
def State.outsiderHoldsNothing (s : State) : Prop :=
  s.control.member = false →
    (s.bus.window = none ∨ s.bus.window = some .idle) ∧ s.bus.applyQueue = [] ∧
    s.bus.roster = Roster.allAbsent ∧ s.bus.syncList = [] ∧ s.bus.tracker = Tracker.idle ∧
    s.request.cursor = Cursor.idle ∧ s.control.syncTimer = .stopped ∧ s.engine.current = false ∧
    s.engine.historyRunning = false

/-- A member, and a station with a check window in progress, a record in transfer or MRS asserted, is
LOCKED and in step (R57 to R59, R80). -/
def State.takesPartInStep (s : State) : Prop :=
  (s.control.member = true → s.bus.locked = true ∧ s.bus.inStep = true) ∧
  (s.bus.window ≠ none → s.bus.locked = true ∧ s.bus.inStep = true) ∧
  (s.bus.inTransfer ≠ none → s.bus.locked = true ∧ s.bus.inStep = true) ∧
  (s.bus.mrsDrive = true → s.bus.locked = true ∧ s.bus.inStep = true)

/-- A roster and a sync list that belong together (R104 to R106): the list holds each SYNCING station
once and no other, some station is ACTIVE while it is not empty, and it holds at most 7. -/
def StandingInOrder (roster : Roster) (list : List StationNo) : Prop :=
  list.Nodup ∧ (∀ k : StationNo, k ∈ list ↔ roster[k] = .syncing) ∧
  (list ≠ [] → ∃ k : StationNo, roster[k] = .active) ∧ list.length ≤ Config.syncListMax

/-- The roster and the sync list of the station belong together. -/
def State.standingInOrder (s : State) : Prop := StandingInOrder s.bus.roster s.bus.syncList

/-- The SPI port (R179, R186): SDO carries a byte exactly while CS is asserted, and a frame has its
direction and address only while CS is asserted. -/
def State.spiInOrder (s : State) : Prop :=
  s.host.sdo.isSome = s.host.selected ∧ (s.host.frame ≠ none → s.host.selected = true)

/-- The pool records agree with the claim table (R3): granted is the sum of the units of the pool's
HELD claims and within the capacity, the waiting count the number of its WAITING claims. -/
def PoolsAgree (pools : Vector Pool 8) (slots : Vector (Option Claim) 64) : Prop :=
  ∀ p : PoolNo,
    pools[p].granted.toNat = ((claimsOf slots p .held).map (fun x => x.2.units.toNat)).sum ∧
    pools[p].waiting = (claimsOf slots p .waiting).length ∧
    pools[p].granted.toNat ≤ pools[p].capacity.toNat

/-- The pool records of a replica that is received whole agree with its claims (R3, R131): every
pool is installed and the horizon is 64. -/
def State.poolsInStep (s : State) : Prop :=
  PoolsAgree s.engine.pools s.engine.slots ∧ s.engine.horizon = 64 ∧
  ∀ p : PoolNo, s.engine.installed[p] = true

end Sys2Proof.Machine
end

