-- ==== Sys2Proof/Certificates/Slice0/Obligations.lean ====
section
/-!
DEFINITION. The statements for the provers. Each says in its docstring which rules of spec/ it
follows; where it rests on a choice of the model it names the log entry.
-/
open Sys2Proof Sys2Proof.Machine

/-! ### The step and the queue -/

/-- A step takes the command at the front of the queue and runs it on the queue's rest; on an empty
queue the block idles (the model's choice, log entry 2). -/
def Obligations.StepRunsTheFrontCommandElseIdles : Prop :=
  (∀ (c : Instr) (rest : List Instr) (s : State),
     step { s with pending := c :: rest } = exec c { s with pending := rest }) ∧
  ∀ s : State, s.pending = [] → step s = .next s

/-- Every command of the table answers a next state and leaves the queue to the step: nothing the
spec describes stops the block. -/
def Obligations.EveryCommandCompletesAndKeepsTheQueue : Prop :=
  ∀ (c : Instr) (s : State), ∃ t, exec c s = .next t ∧ t.pending = s.pending

/-! ### Resets, pins, lock and step (R57 to R60, R101, R110) -/

/-- What reset leaves, item by item, as Table 14, Table 28, Table 39 and the reset lines of R2, R5,
R14, R18, R20, R21, R24, R124, R131, R160, R161, R165 and R169 give it; and what the registers of
the window then read (Table 39), the unassigned, write-only and port addresses 00h among them. The
STATION number (log entry 1), PRI as others drive it (log entry 4) and the items of an IDLE tracker
are not among them. -/
def Obligations.ResetLeavesTheSpecsValues : Prop :=
  (let b := State.reset.bus
   let e := State.reset.engine
   let r := State.reset.request
   let c := State.reset.control
   let h := State.reset.host
   (b.locked = false ∧ b.inStep = false ∧ b.openList = [] ∧ b.inTransfer = none ∧ b.window = none ∧
     b.turn = 7 ∧ b.commit = 0#32 ∧ (∀ k : StationNo, b.roster[k] = .absent) ∧ b.syncList = [] ∧
     b.joinCommit = 0#32 ∧ b.restart = false ∧ b.mrsDrive = false ∧ b.tracker.phase = .idle ∧
     b.applyQueue = []) ∧
   ((∀ p : PoolNo, e.pools[p] = ⟨0#16, 0#16, 0, false⟩) ∧ (∀ i : SlotNo, e.slots[i] = none) ∧
     e.digest = digestOf e.pools e.slots ∧ e.history = [] ∧ e.commit = 0#32 ∧ e.stale = false ∧
     e.current = false ∧ e.horizon = 64 ∧ (∀ i : SlotNo, e.notices[i] = none) ∧
     e.auditRecord = none ∧ e.viewPending = none ∧ (∀ x ∈ e.viewBuffer, x = 0x00#8) ∧
     e.scan = none ∧ e.findResult = ⟨.none, 0x00#8, [], 0#32⟩) ∧
   (r.lrq = [] ∧ r.own = none ∧ r.held = none ∧ r.outcomes = [] ∧ r.completions = [] ∧
     r.reserved = 0 ∧ r.auditDue = false ∧ r.cursor = ⟨none, .idle, 0, 0, 0⟩) ∧
   (c.station = .config ∧ c.phase = .awaiting ∧ c.leaveReason = .left ∧ c.leaveHeld = false ∧
     c.exitCause = .none ∧ c.syncTimer = .stopped) ∧
   (h.site = 0#16 ∧ h.events = 0#16 ∧ h.mask = 0#16 ∧ h.lastCmd = ⟨.none, false, 0⟩ ∧
     h.find = ⟨0x00#8, 0x3F#8, 0xFF#8, 0xFF#8, 0xF7#8⟩ ∧ h.requestBytes = [] ∧ h.compRead = none)) ∧
  ∀ a : Addr, a ≠ 0x05#7 → State.peek a State.reset =
    if a = 0x00#7 then 0x4E#8 else if a = 0x01#7 then 0x5A#8 else if a = 0x02#7 then 0xC8#8
    else if a = 0x03#7 then 0x01#8 else if a = 0x10#7 then 0x08#8 else if a = 0x18#7 then 0x3F#8
    else if a = 0x19#7 then 0xFF#8 else if a = 0x1A#7 then 0xFF#8 else if a = 0x1B#7 then 0xF7#8
    else if a = 0x24#7 then emptyDigest.extractLsb' 0 8
    else if a = 0x25#7 then emptyDigest.extractLsb' 8 8
    else if a = 0x26#7 then emptyDigest.extractLsb' 16 8
    else if a = 0x27#7 then emptyDigest.extractLsb' 24 8
    else 0x00#8

/-- PIN_RESET (R60, Table 14, and the reset lines of every block): every block takes its pin-reset
state. REINIT (R110): every block takes its soft-reset value; the station number and the lock are
kept; LASTCMD does not show it. The model's own: the station number 0 that PIN_RESET leaves until
RESET_RELEASE (log entry 1, DESIGN CHOICE), the items of the engine that the rules imply and no
table lists (log entry 12), those of an IDLE tracker beside its phase (log entry 29, DESIGN CHOICE), PRI as others drive it, which lies outside the part (log entry 4), and
the frame in which REINIT was written, which goes on (log entry 22). -/
def Obligations.ResetsTakeEveryBlockToItsResetValue : Prop :=
  (∀ s : State, ∃ t, exec .pinReset s = .next t ∧
     t.bus = { State.reset.bus with priIn := s.bus.priIn } ∧ t.engine = State.reset.engine ∧
     t.request = State.reset.request ∧ t.control = State.reset.control ∧
     t.host = State.reset.host ∧ t.intAsserted = false ∧ t.reqDriven = false ∧
     t.priDriven = false ∧ t.thrDriven = false ∧ t.ackDriven = false ∧ t.fltDriven = false ∧
     t.dataDriven = false ∧ t.mrsDriven = false) ∧
  ∀ s : State, ∃ t, exec .reinit s = .next t ∧
    t.bus = { State.reset.bus with
      station := s.bus.station, locked := s.bus.locked, priIn := s.bus.priIn } ∧
    t.engine = State.reset.engine ∧ t.request = State.reset.request ∧
    t.control = State.reset.control ∧
    t.host = { State.reset.host with
      selected := true, frame := some ⟨false, 0x09#7⟩, sdo := some 0x00#8 } ∧
    t.reqDriven = false ∧ t.ackDriven = false ∧ t.fltDriven = false ∧ t.thrDriven = false ∧
    t.dataDriven = false ∧ t.mrsDriven = false

/-- RESET_RELEASE (R101): the straps give the station number, SID2 its most significant bit, STATION
shows it, and nothing else changes; no command but PIN_RESET and RESET_RELEASE changes it; a write
to STATION is ignored. That RESET_RELEASE samples in every state, also where no PIN_RESET precedes
it, and that PIN_RESET sets a number, is the model's choice (log entry 1, DESIGN CHOICE). -/
def Obligations.StationNumberIsSampledAtReleaseAndHeld : Prop :=
  (∀ (straps : BitVec 3) (s : State), ∃ t, exec (.resetRelease straps) s = .next t ∧
     t = { s with bus := { s.bus with station := t.bus.station } } ∧
     t.bus.station.val = straps.toNat ∧ State.peek 0x05#7 t = straps.setWidth 8) ∧
  (∀ (c : Instr) (s t : State), exec c s = .next t → c ≠ .pinReset →
    (∀ straps, c ≠ .resetRelease straps) → t.bus.station = s.bus.station) ∧
  (∀ s : State, State.peek 0x05#7 s = byteOfNat s.bus.station.val) ∧
  ∀ (value : Byte) (s : State), ∃ t, exec (.registerWrite (.write 0x05#7) value) s = .next t ∧
    OnlyHost s t ∧ HostRegistersKept s t

/-- LOCK_GAIN (R57): LOCKED, not in step, open list empty, nothing in transfer, turn pointer 7, the
LOCK flag set; roster, sync list, commit counter and everything else keep their values. QUIET_BUS
(R59): a LOCKED bus unit that was not in step is in step, open list empty, nothing in transfer; the
turn pointer and everything else keep their values. That both also leave no window and no restart
episode in progress is read from the rules (log entry 17, DEDUCED). -/
def Obligations.LockGainAndQuietBusStartTheBusUnit : Prop :=
  (∀ s : State, s.bus.locked = false → ∃ t, exec .lockGain s = .next t ∧
     t.bus = { s.bus with
       locked := true, inStep := false, openList := [], inTransfer := none, window := none
       turn := 7, restart := false } ∧
     HostButEvents s t [.lock] ∧ t.engine = s.engine ∧ t.request = s.request ∧
     t.control = s.control ∧ t.pending = s.pending) ∧
  ∀ s : State, s.bus.locked = true → s.bus.inStep = false → ∃ t, exec .quietBus s = .next t ∧
    t.bus = { s.bus with
      inStep := true, openList := [], inTransfer := none, window := none, restart := false } ∧
    OnlyBus s t

/-- LOCK_LOSS (R58, R116): the bus unit stops, discards its open list and what is in transfer, is
not LOCKED and not in step, drives no line, keeps turn pointer and commit counter, and LOCK is set.
A member or a JOINING station enters OUTSIDE with LOCK_LOST; in CONFIG or OUTSIDE the station state
does not change. An own ordinary record open or in transfer, or waiting for a resend, is CANCELLED
with no commit number (R155, R157), after the outcome list at an exit (the order is log entry 8's,
DEDUCED); one not yet won ends without a completion. -/
def Obligations.LockLossStopsTheBusUnit : Prop :=
  ∀ s : State, s.bus.locked = true → ∃ t, exec .lockLoss s = .next t ∧
    t.bus.locked = false ∧ t.bus.inStep = false ∧ t.bus.openList = [] ∧
    t.bus.inTransfer = none ∧ t.bus.window = none ∧ t.bus.turn = s.bus.turn ∧
    t.bus.commit = s.bus.commit ∧ t.bus.joinCommit = s.bus.joinCommit ∧
    t.bus.station = s.bus.station ∧ t.host.flag .lock = true ∧
    t.reqDriven = false ∧ t.priDriven = false ∧ t.thrDriven = false ∧ t.ackDriven = false ∧
    t.fltDriven = false ∧ t.dataDriven = false ∧ t.mrsDriven = false ∧ t.pending = s.pending ∧
    (∀ own q entry, s.request.own = some own → own.what = .ordinary q entry →
      s.request.held = none → s.control.member = true ∨ s.control.station = .joining →
      t.request.completions = s.request.completions ++
        s.request.outcomes.map OutcomeEntry.cancelled ++
        (if own.cond = .onBus ∨ own.won = true
          then [⟨q.ref, q.demand.code, .cancelled, q.demand.slot, .none, none⟩] else [])) ∧
    (∀ own q entry, s.request.own = some own → own.what = .ordinary q entry →
      own.cond = .onBus → s.control.station = .config ∨ s.control.station = .outside →
      t.request.own = none ∧ t.request.completions = s.request.completions ++
        [⟨q.ref, q.demand.code, .cancelled, q.demand.slot, .none, none⟩]) ∧
    (s.control.member = true ∨ s.control.station = .joining →
      t.control.station = .outside ∧ t.control.exitCause = .lockLost ∧
      t.host.flag .outside = true ∧ t.host.lastCmd = ⟨.exit, false, s.request.lrq.length⟩ ∧
      t.request.own = none ∧ t.request.held = none ∧ t.request.lrq = [] ∧
      t.request.outcomes = [] ∧ t.bus.applyQueue = [] ∧ t.bus.syncList = [] ∧
      t.bus.roster = Roster.allAbsent ∧
      t.engine = { s.engine with stale := true, current := false, historyRunning := false }) ∧
    (s.control.station = .config ∨ s.control.station = .outside →
      t.control = s.control ∧ t.engine = s.engine ∧ t.bus.roster = s.bus.roster ∧
      t.bus.applyQueue = s.bus.applyQueue)

/-- While it is not LOCKED or not in step the bus unit drives none of its lines, takes part in no round
and takes no record in (R59, Table 13): REQ, PRI and THR in every such state; ACK, FLT, the data
path and MRS wherever takesPartInStep holds, which every step keeps; of its pins it then pulls none
low but INT. In every state (R186, Table 50): it pulls low INT while asserted, the REQ and ACK of
its own number and no other, the shared lines it drives, FRM while it frames a record, of D0–D3 the
bits that are 1 in the nibble it drives, and no input pin; a wired line is low while some station
pulls it low, and low on D0–D3 is 1; SDO is driven exactly while CS is asserted, wherever spiInOrder
holds, which every step keeps. -/
def Obligations.OutOfStepTakesNoPart : Prop :=
  (∀ s : State, s.bus.locked = false ∨ s.bus.inStep = false →
    s.reqDriven = false ∧ s.priDriven = false ∧ s.thrDriven = false ∧
    (∀ req thr started, exec (.arbitrationRound req thr started) s = .next s) ∧
    (∀ rest mrs, exec (.transferEnd rest mrs) s = .next s) ∧
    (∀ started, exec (.recordStartWithoutRound started) s = .next s) ∧
    exec .ackOrFltOutOfWindow s = .next s ∧
    (s.takesPartInStep → s.ackDriven = false ∧ s.fltDriven = false ∧ s.dataDriven = false ∧
      s.mrsDriven = false ∧ ∀ (i : Nat) (pin : Pin), pin ≠ .int → s.pullsLow i pin = false)) ∧
  (∀ (i : Nat) (s : State),
    s.pullsLow i .int = s.intAsserted ∧
    (∀ k : StationNo, s.pullsLow i (.req k) = (decide (k = s.me) && s.reqDriven) ∧
      s.pullsLow i (.ack k) = (decide (k = s.me) && s.ackDriven)) ∧
    s.pullsLow i .pri = s.priDriven ∧ s.pullsLow i .thr = s.thrDriven ∧
    s.pullsLow i .flt = s.fltDriven ∧ s.pullsLow i .mrs = s.mrsDriven ∧
    s.pullsLow i .frm = s.dataDriven ∧
    (∀ (o : Own) (nibble : Nibble) (bit : Fin 4), s.dataDriven = true → s.request.own = some o →
      (nibblesOfBytes o.contents)[i]? = some nibble →
      s.pullsLow i (.data bit) = nibble.getLsbD bit.val) ∧
    (∀ bit : Fin 4, s.dataDriven = false → s.pullsLow i (.data bit) = false) ∧
    (∀ pin : Pin, pin.input = true → s.pullsLow i pin = false) ∧
    (∀ pin : Pin, s.pullsLow i pin = true → pin.openDrain = true)) ∧
  (∀ (i : Nat) (pin : Pin) (stations : List State),
    wiredHigh i pin stations = false ↔ ∃ s ∈ stations, State.pullsLow i pin s = true) ∧
  (∀ (bit : Fin 4) (b : Fin 3) (k : StationNo), Pin.asserted (.data bit) false = true ∧
    Pin.asserted (.data bit) true = false ∧ Pin.asserted (.sid b) true = true ∧
    Pin.asserted (.sid b) false = false ∧ Pin.asserted .cs false = true ∧
    Pin.asserted .reset false = true ∧ Pin.asserted (.req k) false = true ∧
    Pin.asserted (.ack k) false = true) ∧
  ∀ (k : Fin 8) (s : State), s.spiInOrder → (s.sdoLevel k).isSome = s.host.selected ∧
    ∀ b : Byte, s.host.sdo = some b → s.sdoLevel k = some (b.getMsbD k.val)

/-! ### Commands of CONTROL (R107 to R110, R150, R177) -/

/-- START (R107, R108): in CONFIG or OUTSIDE while LOCKED the station enters JOINING and a JOIN is
its next own record unless one of the earlier membership is still open; LASTCMD shows it accepted.
In every other case nothing changes beyond LASTCMD. -/
def Obligations.StartEntersJoiningOrIsIgnored : Prop :=
  ∀ s : State, ∃ t, exec .start s = .next t ∧
    t.bus = s.bus ∧ t.engine = s.engine ∧ t.pending = s.pending ∧
    t.host.site = s.host.site ∧ t.host.events = s.host.events ∧ t.host.mask = s.host.mask ∧
    t.host.find = s.host.find ∧ AfterWriteAt 0x08#7 s t ∧
    ((s.control.station = .config ∨ s.control.station = .outside) ∧ s.bus.locked = true →
      t.control = { s.control with station := .joining, leaveHeld := false } ∧
      t.host.lastCmd = ⟨.start, true, 0⟩ ∧
      (s.request.own = none →
        t.request = { s.request with own := some (Own.fresh .join) }) ∧
      (s.request.own ≠ none → t.request = s.request)) ∧
    (¬ ((s.control.station = .config ∨ s.control.station = .outside) ∧ s.bus.locked = true) →
      t.control = s.control ∧ t.request = s.request ∧ t.host.lastCmd = ⟨.start, false, 0⟩)

/-- LEAVE (R109, R156, R177). ACTIVE or SYNCING: the station enters LEAVING with reason LEFT, the sync
timer stops, and a LEAVE is the next own record unless one is open. JOINING with the JOIN won: the
command is held. JOINING before: OUTSIDE with LEFT, the LRQ discarded and counted. Elsewhere:
ignored. In ACTIVE or SYNCING a held record, or a chosen one that has won before, is CANCELLED with
no commit number; one not yet won gives its place back without a completion. SYNC_TIMER_EXPIRY (R114, R140): in SYNCING with the timer running the station enters
LEAVING with reason SYNC_TIMEOUT, keeps its phase, the timer stops and a LEAVE is its next own
record; a stopped timer does not expire. -/
def Obligations.LeaveAndSyncTimeoutTakeTheStationOut : Prop :=
  (∀ s : State, ∃ t, exec .leave s = .next t ∧ t.pending = s.pending ∧
     (s.control.station = .active ∨ s.control.station = .syncing →
       t.control = { s.control with
         station := .leaving, phaseKept := s.control.inSyncing, leaveReason := .left
         syncTimer := .stopped } ∧
       t.host.lastCmd = ⟨.leave, true, 0⟩ ∧ t.bus = s.bus ∧ t.engine = s.engine ∧
       t.request.lrq = s.request.lrq ∧ t.request.outcomes = s.request.outcomes ∧
       t.request.held = none ∧
       (s.ownOnBus = none → t.request.own = some (Own.fresh .leave)) ∧
       (s.ownOnBus ≠ none → t.request.own = s.request.own) ∧
       (s.request.held = none → s.request.own = none ∨ s.ownOnBus ≠ none →
         t.request.completions = s.request.completions ∧
         t.request.reserved = s.request.reserved) ∧
       (∀ own q entry, s.request.own = some own → own.cond = .chosen →
         own.what = .ordinary q entry → s.request.held = none →
         t.request.reserved = s.request.reserved - 1 ∧
         t.request.completions = s.request.completions ++
           (if own.won then [⟨q.ref, q.demand.code, .cancelled, q.demand.slot, .none, none⟩]
            else []) ∧
         (own.won = true → t.host.flag .completion = true)) ∧
       (∀ held q entry, s.request.held = some held → held.what = .ordinary q entry →
         s.request.own = none ∨ s.ownOnBus ≠ none →
         t.request.reserved = s.request.reserved - 1 ∧ t.host.flag .completion = true ∧
         t.request.completions = s.request.completions ++
           [⟨q.ref, q.demand.code, .cancelled, q.demand.slot, .none, none⟩])) ∧
     (s.control.station = .joining ∧ s.joinWon = true →
       t.control = { s.control with leaveHeld := true } ∧ t.request = s.request ∧
       t.bus = s.bus ∧ t.engine = s.engine ∧ t.host.lastCmd = ⟨.leave, true, 0⟩) ∧
     (s.control.station = .joining ∧ s.joinWon = false →
       t.control.station = .outside ∧ t.control.exitCause = .left ∧
       t.host.flag .outside = true ∧ t.request.lrq = [] ∧ t.request.own = s.ownOnBus ∧
       t.host.lastCmd = ⟨.leave, true, s.request.lrq.length⟩) ∧
     (s.control.station = .config ∨ s.control.station = .outside ∨ s.control.station = .leaving →
       t.control = s.control ∧ t.request = s.request ∧ t.bus = s.bus ∧ t.engine = s.engine ∧
       t.host.lastCmd = ⟨.leave, false, 0⟩)) ∧
  ∀ s : State,
    (∀ n, s.control.station = .syncing → s.control.syncTimer = .running n → s.ownOnBus = none →
      ∃ t, exec .syncTimerExpiry s = .next t ∧
      t.control = { s.control with
        station := .leaving, phaseKept := true, leaveReason := .syncTimeout
        syncTimer := .stopped } ∧
      t.request.own = some (Own.fresh .leave) ∧ t.request.lrq = s.request.lrq ∧
      t.bus = s.bus ∧ t.engine = s.engine ∧ t.host.lastCmd = s.host.lastCmd) ∧
    (s.control.syncTimer = .stopped → exec .syncTimerExpiry s = .next s)

/-- WITHDRAW (R150, R177): every request of the LRQ is removed without a completion and counted in
LASTCMD; completions, outcome list, station state, bus unit and engine stay. An own record that is
not the chosen LRQ head stays as it is; a chosen head is gone and gives its place back. -/
def Obligations.WithdrawEmptiesTheQueueOfRequests : Prop :=
  ∀ s : State, ∃ t, exec .withdraw s = .next t ∧
    t.request.lrq = [] ∧ t.host.lastCmd = ⟨.withdraw, true, s.request.lrq.length⟩ ∧
    t.request.completions = s.request.completions ∧ t.request.outcomes = s.request.outcomes ∧
    t.request.cursor = s.request.cursor ∧
    t.bus = s.bus ∧ t.engine = s.engine ∧ t.control = s.control ∧ t.pending = s.pending ∧
    t.host.events = s.host.events ∧ t.host.site = s.host.site ∧ t.host.mask = s.host.mask ∧
    t.host.find = s.host.find ∧
    (s.request.own ≠ none → s.headChosen = false → t.request = { s.request with lrq := [] }) ∧
    (s.headChosen = true → s.control.station = .active → s.request.held = none →
      s.request.auditDue = false →
      t.request = { s.request with
        lrq := [], own := none, reserved := s.request.reserved - 1 })

/-! ### Registers written and read (R102, R141, R161, R164, R165, R168, R172 to R175, R179) -/

/-- SITE_WRITE (R102): in CONFIG the byte replaces its byte of the site code, in any other state it is
ignored; SITE reads the site code, and both resets set it to 0000h. CONTROL_OTHER (R107, R177): a
value that names no command changes nothing beyond LASTCMD. -/
def Obligations.SiteIsWrittenInConfigAndUnknownCommandsIgnored : Prop :=
  (∀ (high : Bool) (value : Byte) (s : State), ∃ t, exec (.siteWrite high value) s = .next t ∧
     OnlyHost s t ∧ t.host.events = s.host.events ∧ t.host.mask = s.host.mask ∧
     t.host.lastCmd = s.host.lastCmd ∧ t.host.find = s.host.find ∧
     (s.control.station = .config → byteOf high t.host.site = value ∧
       byteOf (!high) t.host.site = byteOf (!high) s.host.site) ∧
     (s.control.station ≠ .config → t.host.site = s.host.site) ∧
     State.peek 0x06#7 s = byteOf false s.host.site ∧
     State.peek 0x07#7 s = byteOf true s.host.site ∧
     (∃ u, exec .pinReset s = .next u ∧ u.host.site = 0#16) ∧
     (∃ u, exec .reinit s = .next u ∧ u.host.site = 0#16)) ∧
  ∀ (value : Byte) (s : State), value ≠ 0x01#8 → value ≠ 0x02#8 → value ≠ 0x03#8 →
    value ≠ 0x04#8 → ∃ t, exec (.controlOther value) s = .next t ∧ OnlyHost s t ∧
    t.host.lastCmd = ⟨.other, false, 0⟩ ∧ t.host.site = s.host.site ∧
    t.host.events = s.host.events ∧ t.host.mask = s.host.mask ∧ t.host.find = s.host.find ∧
    AfterWriteAt 0x08#7 s t

/-- EVENTS_CLEAR (R173): of the byte written, flags written 1 are cleared and flags written 0 are
left; the other byte's flags are left; positions that carry no flag stay as they are. A flag set
before the clear is cleared by it, a flag set after it stands. -/
def Obligations.EventsAreClearedByWritingOnes : Prop :=
  ∀ (high : Bool) (value : Byte) (s : State), ∃ t, exec (.eventsClear high value) s = .next t ∧
    OnlyHost s t ∧ t.host.site = s.host.site ∧ t.host.mask = s.host.mask ∧
    t.host.lastCmd = s.host.lastCmd ∧ t.host.find = s.host.find ∧
    (∀ i < 8, t.host.events.getLsbD (if high then i + 8 else i) =
      (s.host.events.getLsbD (if high then i + 8 else i) && !value.getLsbD i)) ∧
    (∀ i < 8, t.host.events.getLsbD (if high then i else i + 8) =
      s.host.events.getLsbD (if high then i else i + 8)) ∧
    (s.reservedRead0 → ∀ i, 11 ≤ i → t.host.events.getLsbD i = s.host.events.getLsbD i) ∧
    (∀ e : Event, (t.setEvent e).host.flag e = true)

/-- EVMASK_WRITE (R174): the byte written replaces the enables of that byte, positions with no flag
read 0, reads return the enables as written, both resets clear every enable, and flags are set and cleared in
the same way whatever the mask. -/
def Obligations.MaskHoldsOneEnableForEachFlag : Prop :=
  (∀ (high : Bool) (value : Byte) (s : State), ∃ t, exec (.evmaskWrite high value) s = .next t ∧
    OnlyHost s t ∧ t.host.site = s.host.site ∧ t.host.events = s.host.events ∧
    t.host.lastCmd = s.host.lastCmd ∧ t.host.find = s.host.find ∧
    (∀ i < 8, t.host.mask.getLsbD (if high then i + 8 else i) =
      (value.getLsbD i && (!high || decide (i < 3)))) ∧
    (s.reservedRead0 → ∀ i < 8, t.host.mask.getLsbD (if high then i else i + 8) =
      s.host.mask.getLsbD (if high then i else i + 8)) ∧
    (∀ i, 11 ≤ i → t.host.mask.getLsbD i = false) ∧
    State.peek (if high then 0x0F#7 else 0x0E#7) t =
      value &&& (if high then 0x07#8 else 0xFF#8) ∧
    (∀ e : Event, (t.setEvent e).host.events = (s.setEvent e).host.events) ∧
    (∀ h v, ∃ u w, exec (.eventsClear h v) s = .next u ∧ exec (.eventsClear h v) t = .next w ∧
      w.host.events = u.host.events)) ∧
  (∀ s : State, ∃ t, exec .pinReset s = .next t ∧ t.host.mask = 0#16) ∧
  (∀ s : State, ∃ t, exec .reinit s = .next t ∧ t.host.mask = 0#16)

/-- INT (R175): asserted while at least one flag is both set and enabled; an enabled flag that is
set asserts it, a disabled one leaves it; both resets release it. -/
def Obligations.IntFollowsSetAndEnabledFlags : Prop :=
  (∀ s : State, s.reservedRead0 →
    (s.intAsserted = true ↔
      ∃ e : Event, s.host.flag e = true ∧ s.host.mask.getLsbD e.position = true)) ∧
  (∀ (s : State) (e : Event), s.host.mask.getLsbD e.position = true →
    (s.setEvent e).intAsserted = true) ∧
  (∀ (s : State) (e : Event), s.host.mask.getLsbD e.position = false →
    (s.setEvent e).intAsserted = s.intAsserted) ∧
  (∀ s : State, ∃ t, exec .pinReset s = .next t ∧ t.intAsserted = false) ∧
  (∀ s : State, ∃ t, exec .reinit s = .next t ∧ t.intAsserted = false)

/-- EVENTS_READ (R172): the first read of either byte in a frame latches all positions, a read of
the other byte later in the frame comes from the latch, positions with no flag read 0, and reading
clears nothing. -/
def Obligations.EventsAreReadFromOneLatch : Prop :=
  ∀ (high : Bool) (s : State), ∃ t, exec (.eventsRead high) s = .next t ∧ OnlyFrame s t ∧
    (∀ latch, s.host.frame = some ⟨true, if high then 0x0D#7 else 0x0C#7⟩ →
      s.host.eventsLatch = some latch →
      t.host.sdo = some (byteOf high latch) ∧ t.host.eventsLatch = some latch) ∧
    (s.host.frame ≠ some ⟨true, if high then 0x0D#7 else 0x0C#7⟩ ∨ s.host.eventsLatch = none →
      t.host.sdo = some (byteOf high s.host.events) ∧
      t.host.eventsLatch = some s.host.events ∧
      (s.reservedRead0 → high = true →
        ∀ i, 3 ≤ i → (byteOf high s.host.events).getLsbD i = false)) ∧
    t.host.frame = some ⟨true, if high then 0x0E#7 else 0x0D#7⟩

/-- VIEW_SEL (R161): 00h to 49h makes the selection pending and shows VIEW_BUSY; a higher value leaves
any pending selection as it is. FIND_GO (R165, R164): ignored while a scan runs; refused with
EMPTY_WINDOW and FIND_DONE when FROM is above 3Fh or above TO taken as at most 3Fh; else the scan
starts at FROM on a copy of the filter, the result RUNNING. -/
def Obligations.ViewSelAndFindGoStartTheirWork : Prop :=
  (∀ (value : Byte) (s : State), ∃ t, exec (.viewSel value) s = .next t ∧
     t.bus = s.bus ∧ t.request = s.request ∧ t.control = s.control ∧ t.pending = s.pending ∧
     HostRegistersKept s t ∧ AfterWriteAt 0x15#7 s t ∧
     (value.toNat ≤ 0x49 → t.engine = { s.engine with viewPending := some value } ∧
       t.stateByte.getLsbD 6 = true) ∧
     (0x49 < value.toNat → t.engine = s.engine)) ∧
  ∀ (value : Byte) (s : State), ∃ t, exec (.findGo value) s = .next t ∧
    t.bus = s.bus ∧ t.request = s.request ∧ t.control = s.control ∧ t.pending = s.pending ∧
    t.host.site = s.host.site ∧ t.host.mask = s.host.mask ∧ t.host.lastCmd = s.host.lastCmd ∧
    t.host.find = s.host.find ∧
    (s.engine.scan ≠ none → t.engine = s.engine ∧ t.host.events = s.host.events) ∧
    (s.engine.scan = none → s.host.find.first.toNat ≤ min s.host.find.last.toNat 63 →
      t.engine = { s.engine with
        scan := some ⟨s.host.find, s.host.find.first.toNat, [], none⟩
        findResult := ⟨.running, s.host.find.first, [], s.engine.commit⟩ } ∧
      t.host.events = s.host.events) ∧
    (s.engine.scan = none → min s.host.find.last.toNat 63 < s.host.find.first.toNat →
      t.engine = { s.engine with
        findResult := ⟨.emptyWindow, s.host.find.first, [], s.engine.commit⟩ } ∧
      t.host.events = s.host.events ||| 0x0200#16)

/-- REGISTER_WRITE. Written (R164, R179, R180): the five FIND registers take the byte, FIND_MASKS
without its bit 3; a write to a read-only register or port or to an unassigned address is ignored. At
REQ_PORT (R141) each of the first seven bytes of a request is kept, the port address stays and
nothing is submitted; a byte that does not continue the frame begins a new request. Read (R179,
R180): what stands at the address, write-only and unassigned addresses 00h. The frame (R179, R186):
at CS every port is at its first byte and SDO carries 00h; the first byte gives the direction, 1 for
read, and the start address; each later byte acts at the current address, which rises by one and
wraps, but at a port. An access at an address with a row of its own is that row. A byte whose
direction and address do not continue the frame begins a new one (log entry 5, DESIGN CHOICE). -/
def Obligations.RegisterWritesReachTheirRegister : Prop :=
  (∀ (addr : Addr) (value : Byte) (s : State), hasOwnRow addr = false → addr ≠ 0x12#7 →
     ∃ t, exec (.registerWrite (.write addr) value) s = .next t ∧ OnlyHost s t ∧
     t.host.site = s.host.site ∧ t.host.events = s.host.events ∧ t.host.mask = s.host.mask ∧
     t.host.lastCmd = s.host.lastCmd ∧ AfterWriteAt addr s t ∧
     t.host.find =
       if addr = 0x17#7 then { s.host.find with first := value }
       else if addr = 0x18#7 then { s.host.find with last := value }
       else if addr = 0x19#7 then { s.host.find with holder := value }
       else if addr = 0x1A#7 then { s.host.find with pool := value }
       else if addr = 0x1B#7 then { s.host.find with masks := value &&& 0xF7#8 }
       else s.host.find) ∧
  (∀ (value : Byte) (s : State),
    (s.host.frame = some ⟨false, 0x12#7⟩ → s.host.requestBytes.length < 7) →
    ∃ t, exec (.registerWrite (.write 0x12#7) value) s = .next t ∧ OnlyHost s t ∧
    HostRegistersKept s t ∧ t.host.frame = some ⟨false, 0x12#7⟩ ∧
    t.host.requestBytes =
      (if s.host.frame = some ⟨false, 0x12#7⟩ then s.host.requestBytes else []) ++ [value]) ∧
  (∀ (addr : Addr) (value : Byte) (s : State), hasReadRow addr = false →
    ∃ t, exec (.registerWrite (.read addr) value) s = .next t ∧ OnlyFrame s t ∧
    t.host.selected = true ∧ t.host.frame = some ⟨true, nextAddr addr⟩ ∧
    t.host.sdo = some (State.peek addr s) ∧
    (addr.toNat ∈ [0x08, 0x0B, 0x12, 0x15, 0x1C, 0x1F] ∨ 0x28 ≤ addr.toNat →
      t.host.sdo = some 0x00#8)) ∧
  (∀ (value : Byte) (s : State),
    (s.host.selected = true → exec (.registerWrite .select value) s = .next s) ∧
    (s.host.selected = false → exec (.registerWrite .byte value) s = .next s ∧
      ∃ t, exec (.registerWrite .select value) s = .next t ∧ OnlyFrame s t ∧
      t.host.selected = true ∧ t.host.sdo = some 0x00#8 ∧ t.host.frame = none ∧
      t.host.requestBytes = [] ∧ t.host.compRead = none ∧ t.host.noticeRead = none ∧
      t.host.viewRead = none ∧ t.host.findRead = none ∧ t.host.auditRead = none ∧
      t.host.eventsLatch = none ∧ t.host.commitLatch = none) ∧
    (s.host.selected = true → s.host.frame = none →
      exec (.registerWrite .byte value) s = .next { s with host := { s.host with
        frame := some ⟨value.getLsbD 7, value.extractLsb' 0 7⟩, sdo := some 0x00#8 } }) ∧
    (∀ a : Addr, s.host.selected = true → s.host.frame = some ⟨false, a⟩ →
      exec (.registerWrite .byte value) s = exec (.registerWrite (.write a) value) s) ∧
    (∀ a : Addr, s.host.selected = true → s.host.frame = some ⟨true, a⟩ →
      exec (.registerWrite .byte value) s = exec (.registerWrite (.read a) value) s)) ∧
  (∀ (value : Byte) (high : Bool) (offset : BitVec 3) (s : State),
    exec (.registerWrite (.read 0x13#7) value) s = exec .completionTake s ∧
    exec (.registerWrite (.read 0x14#7) value) s = exec .noticeTake s ∧
    exec (.registerWrite (.read 0x16#7) value) s = exec .viewPortRead s ∧
    exec (.registerWrite (.read 0x1D#7) value) s = exec .findPortRead s ∧
    exec (.registerWrite (.read 0x1E#7) value) s = exec .auditPortRead s ∧
    exec (.registerWrite (.read (if high then 0x0D#7 else 0x0C#7)) value) s =
      exec (.eventsRead high) s ∧
    exec (.registerWrite (.read (0x4#4 ++ offset)) value) s = exec (.commitDigestRead offset) s ∧
    exec (.registerWrite (.write (if high then 0x07#7 else 0x06#7)) value) s =
      exec (.siteWrite high value) s ∧
    exec (.registerWrite (.write (if high then 0x0D#7 else 0x0C#7)) value) s =
      exec (.eventsClear high value) s ∧
    exec (.registerWrite (.write (if high then 0x0F#7 else 0x0E#7)) value) s =
      exec (.evmaskWrite high value) s ∧
    exec (.registerWrite (.write 0x15#7) value) s = exec (.viewSel value) s ∧
    exec (.registerWrite (.write 0x1C#7) value) s = exec (.findGo value) s ∧
    exec (.registerWrite (.write 0x08#7) 0x01#8) s = exec .start s ∧
    exec (.registerWrite (.write 0x08#7) 0x02#8) s = exec .leave s ∧
    exec (.registerWrite (.write 0x08#7) 0x03#8) s = exec .withdraw s ∧
    exec (.registerWrite (.write 0x08#7) 0x04#8) s = exec .reinit s) ∧
  ∀ a : Addr, nextAddr a =
    if a.toNat ∈ [0x12, 0x13, 0x14, 0x16, 0x1D, 0x1E] then a
    else if a = 0x7F#7 then 0x00#7 else BitVec.ofNat 7 (a.toNat + 1)

/-- REQUEST_SUBMIT (R142), at the eighth byte. LRQ full: OVERRUN. Format error: a FORMAT completion
in a free place, carrying ref and kind as written, or OVERRUN with none free. Otherwise: the request
joins the tail of the LRQ. In each case the port's pointer is back at the first byte. -/
def Obligations.EighthByteSubmitsTheRequest : Prop :=
  ∀ (value : Byte) (s : State), s.host.frame = some ⟨false, 0x12#7⟩ →
    s.host.requestBytes.length = 7 → ∃ t, exec (.requestSubmit value) s = .next t ∧
    OnlyHostAndRequest s t ∧ t.host.requestBytes = [] ∧ t.host.site = s.host.site ∧
    t.host.mask = s.host.mask ∧ t.host.lastCmd = s.host.lastCmd ∧ t.host.find = s.host.find ∧
    (8 ≤ s.request.lrq.length →
      t.request = s.request ∧ t.host.events = s.host.events ||| 0x0040#16) ∧
    (s.request.lrq.length < 8 → parseRequest (s.host.requestBytes ++ [value]) = none →
      (0 < s.request.freePlaces →
        t.request = { s.request with
          completions := s.request.completions ++
            [⟨byteAt s.host.requestBytes 1, byteAt s.host.requestBytes 0, .format, none, .none,
              none⟩] } ∧
        t.host.events = s.host.events ||| 0x0001#16) ∧
      (s.request.freePlaces = 0 →
        t.request = s.request ∧ t.host.events = s.host.events ||| 0x0040#16)) ∧
    (∀ r, s.request.lrq.length < 8 → parseRequest (s.host.requestBytes ++ [value]) = some r →
      t.request.lrq = s.request.lrq ++ [r] ∧ t.request.completions = s.request.completions ∧
      t.request.outcomes = s.request.outcomes ∧ t.host.events = s.host.events ∧
      (s.request.own ≠ none →
        t.request = { s.request with lrq := s.request.lrq ++ [r] }))

/-- The format errors of R142: which eight bytes are no request. -/
def Obligations.FormatErrorsAreThoseOfTheTable : Prop :=
  ∀ kind ref item cw u0 u1 tag last : Byte,
    (parseRequest [kind, ref, item, cw, u0, u1, tag, last] = none ↔
      (kind.toNat < 3 ∨ 7 < kind.toNat) ∨ last ≠ 0x00#8 ∨
      (kind = 0x03#8 ∧ (8 ≤ item.toNat ∨ (u0 = 0x00#8 ∧ u1 = 0x00#8) ∨
        4 ≤ (cw &&& 0x0F#8).toNat ∨ 2 ≤ (cw >>> 4).toNat)) ∨
      (kind = 0x04#8 ∧ 64 ≤ item.toNat) ∨
      (kind = 0x05#8 ∧ (64 ≤ item.toNat ∨ (u0 = 0x00#8 ∧ u1 = 0x00#8))) ∨
      (kind = 0x06#8 ∧ 8 ≤ item.toNat))

/-- COMPLETION_TAKE (R145, R179): the first byte of a frame copies the head completion, the bytes
come from that copy, the tenth removes the head when the copy was of a completion and returns the
pointer to the first byte. Where the copy was the empty indication nothing is removed, and the later
bytes of the frame are 00h and copy nothing new (log entry 27, DESIGN CHOICE). -/
def Obligations.CompletionIsTakenAtTheTenthByte : Prop :=
  ∀ s : State, ∃ t, exec .completionTake s = .next t ∧ OnlyHostAndRequest s t ∧
    HostRegistersKept s t ∧
    let p := portInEffect 0x13#7 s s.host.compRead s.request.completions.head?
    t.host.sdo = some (byteAt (completionBytes p.latch) p.pointer) ∧
    t.host.frame = some ⟨true, 0x13#7⟩ ∧
    (p.pointer < 9 ∨ p.latch = none → t.request = s.request ∧
      t.host.compRead = some ⟨p.latch, p.pointer + 1⟩) ∧
    (p.latch = none → t.host.sdo = some 0x00#8) ∧
    (9 ≤ p.pointer → p.latch ≠ none → t.host.compRead = none ∧
      t.request.completions = s.request.completions.tail ∧
      t.request.lrq = s.request.lrq ∧ t.request.outcomes = s.request.outcomes ∧
      (s.request.own ≠ none →
        t.request = { s.request with completions := s.request.completions.tail }))

/-- NOTICE_TAKE (R170): the first byte of a frame copies the lowest-numbered marked entry, slot FFh with
zeros where none is marked; the six bytes come from that copy; the sixth unmarks the entry if it is
still marked with the commit number copied; bytes beyond it are 00h and take nothing. -/
def Obligations.NoticeIsTakenAtTheSixthByte : Prop :=
  ∀ s : State, ∃ t, exec .noticeTake s = .next t ∧
    t.bus = s.bus ∧ t.request = s.request ∧ t.control = s.control ∧ t.pending = s.pending ∧
    HostRegistersKept s t ∧
    t.engine = { s.engine with notices := t.engine.notices } ∧
    let p := portInEffect 0x14#7 s s.host.noticeRead (firstNotice s.engine.notices)
    t.host.sdo = some (byteAt (noticeBytes p.latch) p.pointer) ∧
    t.host.noticeRead = some ⟨p.latch, p.pointer + 1⟩ ∧
    (p.pointer ≠ 5 ∨ p.latch = none → t.engine.notices = s.engine.notices) ∧
    (∀ i n, p.pointer = 5 → p.latch = some (i, n) →
      (∀ j : SlotNo, j ≠ i → t.engine.notices[j] = s.engine.notices[j]) ∧
      (∀ m, s.engine.notices[i] = some m → m.commit = n.commit → t.engine.notices[i] = none) ∧
      (∀ m, s.engine.notices[i] = some m → m.commit ≠ n.commit →
        t.engine.notices[i] = some m)) ∧
    (6 ≤ p.pointer → t.host.sdo = some 0x00#8) ∧
    (∀ (i : SlotNo) (n : Notice), firstNotice s.engine.notices = some (i, n) ↔
      s.engine.notices[i] = some n ∧ ∀ j : SlotNo, j < i → s.engine.notices[j] = none) ∧
    (∀ (i : SlotNo) (n : Notice),
      noticeBytes (some (i, n)) = [byteOfNat i.val, n.cause.code] ++ bytes32 n.commit) ∧
    noticeBytes none = [0xFF#8, 0x00#8, 0x00#8, 0x00#8, 0x00#8, 0x00#8]

/-- VIEW_PORT_READ, FIND_PORT_READ and AUDIT_PORT_READ (R163, R167, R169): the first byte of a frame
copies the item, the bytes come from the copy, 00h beyond its length, and reading changes nothing
else. COMMIT_DIGEST_READ (R168): the first read in the range latches the engine commit counter and
the digest, and every byte comes from the latch, least significant first. SPI_FRAME_END (R141, R145,
R179): a partial request is discarded, every port is back at its first byte with no latch, SDO is
not driven, and nothing is taken. -/
def Obligations.PortsReadFromTheirLatchWithinAFrame : Prop :=
  (∀ s : State,
     (∃ t, exec .viewPortRead s = .next t ∧ OnlyFrame s t ∧
       let p := portInEffect 0x16#7 s s.host.viewRead s.engine.viewBuffer
       t.host.sdo = some (byteAt p.latch p.pointer) ∧
       t.host.viewRead = some ⟨p.latch, min (p.pointer + 1) p.latch.length⟩ ∧
       (p.latch.length ≤ p.pointer → t.host.sdo = some 0x00#8)) ∧
     (∃ t, exec .findPortRead s = .next t ∧ OnlyFrame s t ∧
       let p := portInEffect 0x1D#7 s s.host.findRead s.engine.findResult
       t.host.sdo = some (byteAt p.latch.bytes p.pointer) ∧
       t.host.findRead = some ⟨p.latch, p.pointer + 1⟩ ∧
       (p.latch.bytes.length ≤ p.pointer → t.host.sdo = some 0x00#8)) ∧
     (∃ t, exec .auditPortRead s = .next t ∧ OnlyFrame s t ∧
       let p := portInEffect 0x1E#7 s s.host.auditRead s.engine.auditRecord
       t.host.sdo = some (byteAt (auditBytes p.latch) p.pointer) ∧
       t.host.auditRead = some ⟨p.latch, p.pointer + 1⟩ ∧
       (14 ≤ p.pointer → t.host.sdo = some 0x00#8))) ∧
  (∀ (offset : BitVec 3) (s : State), ∃ t, exec (.commitDigestRead offset) s = .next t ∧
     OnlyFrame s t ∧
     ∃ latch : CommitNo × Sys2Proof.Digest, t.host.commitLatch = some latch ∧
       t.host.sdo = some (byteAt (bytes32 latch.1 ++ bytes32 latch.2) offset.toNat) ∧
       (s.host.frame = some ⟨true, 0x4#4 ++ offset⟩ → ∀ l, s.host.commitLatch = some l →
         latch = l) ∧
       (s.host.frame ≠ some ⟨true, 0x4#4 ++ offset⟩ ∨ s.host.commitLatch = none →
         latch = (s.engine.commit, s.engine.digest))) ∧
  ∀ s : State, ∃ t, exec .spiFrameEnd s = .next t ∧ OnlyFrame s t ∧ t.host.frame = none ∧
    t.host.sdo = none ∧ t.host.requestBytes = [] ∧ t.host.compRead = none ∧
    t.host.noticeRead = none ∧ t.host.viewRead = none ∧ t.host.findRead = none ∧
    t.host.auditRead = none ∧ t.host.eventsLatch = none ∧ t.host.commitLatch = none

/-! ### Arbitration and transfer (R61 to R69, R80, R81) -/

/-- The winner of a round (R64): counting upward from the turn pointer + 1 and wrapping, the first
station whose REQ line is asserted; none when no line is. No round is taken while the bus is not
free to start (R61, R77): THR asserted, a restart episode, a record in transfer, four open records,
or an exclusive record open. -/
def Obligations.RoundsNeedAFreeBusAndPickTheFirstRequester : Prop :=
  (∀ (turn : StationNo) (lines : BitVec 8),
     (winnerOf turn lines = none ↔ lines = 0#8) ∧
     ∀ i : Fin 8, winnerOf turn lines = some (turn + 1 + i) ↔
       lineOf lines (turn + 1 + i) = true ∧ ∀ j : Fin 8, j < i → lineOf lines (turn + 1 + j) = false) ∧
  ∀ (req : BitVec 8) (thr : Bool) (started : Option (List Nibble)) (s : State),
    thr = true ∨ s.thrDriven = true ∨ s.bus.restart = true ∨ s.bus.inTransfer ≠ none ∨
    4 ≤ s.bus.openList.length ∨ (∃ o ∈ s.bus.openList, o.exclusive = true) →
    exec (.arbitrationRound req thr started) s = .next s

/-- ARBITRATION_ROUND that another station wins (R64 to R66, R96): its record is in transfer with
the freeze noted, the turn pointer takes its number, and nothing else changes. -/
def Obligations.AnothersWinStartsItsRecord : Prop :=
  ∀ (req : BitVec 8) (thr : Bool) (started : List Nibble) (winner : StationNo) (s : State),
    s.bus.locked = true → s.bus.inStep = true → s.freeToStart thr = true →
    winnerOf s.bus.turn (s.reqLines req) = some winner → winner ≠ s.me →
    (senderNibble started).bind stationOfNibble = some winner →
    (startExclusive started = false ∨ s.bus.openList = []) →
    exec (.arbitrationRound req thr (some started)) s = .next { s with bus := { s.bus with
      turn := winner
      inTransfer := some ⟨winner, started, false, !s.bus.syncList.isEmpty, false, false⟩ } }

/-- ARBITRATION_ROUND that this station wins (R66, R149): its own record is on the bus with its
contents fixed, REQ is released and the data path driven, the turn pointer takes its number, and at
its first win a request leaves the head of the LRQ. The contents (R66): a JOIN carries the site
code, an AUDIT the engine commit counter and the digest of that instant, a request its fields, a
snapshot record its build. The entry AUDIT wins with its SNAP-END applied, so that its N is at or
after the SNAP-END's commit (R138): the applications that are still to come up to it come before
such a win (their place is DEDUCED, log entry 26). -/
def Obligations.OwnWinFixesTheContents : Prop :=
  (∀ (req : BitVec 8) (thr : Bool) (started : List Nibble) (o : Own) (s : State),
     s.freeToStart thr = true → s.request.own = some o → s.reqDriven = true →
     winnerOf s.bus.turn (s.reqLines req) = some s.me →
     (senderNibble started).bind stationOfNibble = some s.me →
     (startExclusive started = false ∨ s.bus.openList = []) →
     ((∃ r, o.what = .ordinary r true) → s.snapEndWaits = false) →
     ∃ t, exec (.arbitrationRound req thr (some started)) s = .next t ∧
     t.bus = { s.bus with
       turn := s.me
       inTransfer := some ⟨s.me, started, true, !s.bus.syncList.isEmpty, true, false⟩ } ∧
     t.request.own = some { o with
       cond := .onBus, won := true, contents := Record.bytes ⟨s.me, s.winBody o.what⟩ } ∧
     (∀ r, o.what = .ordinary r false → o.won = false →
       t.request.lrq = s.request.lrq.tail) ∧
     ((∀ r, o.what ≠ .ordinary r false) ∨ o.won = true → t.request.lrq = s.request.lrq) ∧
     t.request = { s.request with own := t.request.own, lrq := t.request.lrq } ∧
     t.reqDriven = false ∧ t.priDriven = false ∧ t.dataDriven = true ∧
     t.engine = s.engine ∧ t.control = s.control ∧ t.host = s.host ∧ t.pending = s.pending) ∧
  (∀ (req : BitVec 8) (thr : Bool) (started : Option (List Nibble)) (o : Own) (ref : Byte)
     (s : State),
     s.freeToStart thr = true → s.request.own = some o → o.what = .ordinary ⟨ref, .audit⟩ true →
     s.reqDriven = true → winnerOf s.bus.turn (s.reqLines req) = some s.me →
     (s.snapEndWaits = true → ∃ u, exec .application s = .next u ∧
       exec (.arbitrationRound req thr started) s = exec (.arbitrationRound req thr started) u) ∧
     ∃ t, exec (.arbitrationRound req thr started) s = .next t ∧
       (∀ e ∈ t.bus.applyQueue, e.record.body.kind = .snapEnd →
         e.record.body.target ≠ some s.me) ∧
       t.request.own = some { o with
         cond := .onBus, won := true
         contents := Record.bytes ⟨s.me, .audit t.engine.commit t.engine.digest⟩ }) ∧
  ∀ (s : State) (ref : Byte),
    s.winBody .join = .join s.host.site ∧ s.winBody .leave = .leave ∧
    (∀ entry, s.winBody (.ordinary ⟨ref, .audit⟩ entry) =
      .audit s.engine.commit s.engine.digest) ∧
    (∀ entry p u k w t, s.winBody (.ordinary ⟨ref, .claim p u k w t⟩ entry) = .claim p u k w t) ∧
    (∀ entry i t, s.winBody (.ordinary ⟨ref, .release i t⟩ entry) = .release i t) ∧
    (∀ entry i t u, s.winBody (.ordinary ⟨ref, .trim i t u⟩ entry) = .trim i t u) ∧
    (∀ entry p c, s.winBody (.ordinary ⟨ref, .setcap p c⟩ entry) = .setcap p c) ∧
    (∀ b, s.winBody (.snapshot b) = b)

/-- PRI_CHANGE (R62, R63): the level is taken; while others assert PRI a record of another than a
priority kind keeps REQ released. -/
def Obligations.PriHoldsBackOtherKinds : Prop :=
  ∀ (asserted : Bool) (s : State), ∃ t, exec (.priChange asserted) s = .next t ∧
    t = { s with bus := { s.bus with priIn := asserted } } ∧
    (asserted = true → t.reqDriven = true → t.priDriven = true)

/-- TRANSFER_END (R67 to R69): a record of an allowed length joins the tail of the open list, its
window opens when none is in progress, and an earlier window goes on; nothing else changes. (A record
whose start was a violation does not join: MemberAnswersViolationsWithMrs.) -/
def Obligations.CompleteRecordJoinsTheOpenList : Prop :=
  ∀ (rest : List Nibble) (mrs : Bool) (x : Transfer) (s : State),
    s.bus.inTransfer = some x → s.bus.locked = true → s.bus.inStep = true →
    s.bus.mrsDrive = false → x.barred = false → (x.received ++ rest).length % 2 = 0 →
    allowedLength ((x.received ++ rest).length / 2) = true → s.bus.openList.length < 4 →
    (senderNibble x.received).isSome = true → senderDiffers x.received x.winner = false →
    ∃ t, exec (.transferEnd rest mrs) s = .next t ∧ OnlyBus s t ∧
    t.bus.openList =
      s.bus.openList ++ [⟨bytesOfNibbles (x.received ++ rest), x.own, x.frozen⟩] ∧
    t.bus.inTransfer = none ∧
    t.bus = { s.bus with
      openList := t.bus.openList, inTransfer := none, window := t.bus.window } ∧
    (∀ d, s.bus.window = some d → t.bus.window = some d) ∧
    (s.bus.window = none → s.bus.openList = [] → t.bus.window = some (driveFor s
      ⟨bytesOfNibbles (x.received ++ rest), x.own, x.frozen⟩))

/-- Protocol violations at a member that is LOCKED and in step (R80, R81, Table 17). It asserts MRS,
and no record joins the open list, where a record's framing fits no kind, a fifth record would join,
or the sender shown differs from the winner; where a record starts without a round; where at a
round's win no record starts, another sender shows, or an exclusive kind starts with the open list
not empty; and where ACK or FLT is asserted with no window in progress. A record whose start was the
violation never joins the open list. Within an episode it does not assert MRS again; a station that
is no member detects nothing. The own open list is kept until the episode begins (log entry 7); a
record that starts without a round at a station that is no member is followed (log entry 24). -/
def Obligations.MemberAnswersViolationsWithMrs : Prop :=
  (∀ s : State, s.bus.locked = true → s.bus.inStep = true → s.control.member = true →
    s.bus.restart = false →
    (∀ rest mrs x, s.bus.inTransfer = some x →
      (allowedLength (receivedLength (x.received ++ rest)) = false ∨ 4 ≤ s.bus.openList.length ∨
        senderDiffers (x.received ++ rest) x.winner = true) →
      ∃ t, exec (.transferEnd rest mrs) s = .next t ∧ t.bus.mrsDrive = true ∧
        t.bus.openList = s.bus.openList ∧ t.bus.inTransfer = none ∧ OnlyBus s t) ∧
    (∀ rest mrs x, s.bus.inTransfer = some x → x.barred = true →
      ∃ t, exec (.transferEnd rest mrs) s = .next t ∧ t.bus.openList = s.bus.openList ∧
        t.bus.inTransfer = none ∧ OnlyBus s t) ∧
    (∀ started, ∃ t, exec (.recordStartWithoutRound started) s = .next t ∧
      t.bus.mrsDrive = true ∧ t.bus.openList = s.bus.openList ∧ OnlyBus s t ∧
      (s.bus.inTransfer = none → ∃ x, t.bus.inTransfer = some x ∧ x.barred = true) ∧
      (s.bus.inTransfer ≠ none → t.bus.inTransfer = s.bus.inTransfer)) ∧
    (∀ req thr started winner, s.freeToStart thr = true →
      winnerOf s.bus.turn (s.reqLines req) = some winner →
      (started = none ∨ ∃ received, started = some received ∧
        (senderDiffers received winner = true ∨
          startExclusive received = true ∧ s.bus.openList ≠ [])) →
      ∃ t, exec (.arbitrationRound req thr started) s = .next t ∧ t.bus.mrsDrive = true ∧
        t.bus.openList = s.bus.openList ∧ (∀ x, t.bus.inTransfer = some x → x.barred = true) ∧
        t.control = s.control ∧ t.pending = s.pending ∧
        (s.ownIsEntryAudit = false ∨ s.snapEndWaits = false ∨ winner ≠ s.me →
          t.engine = s.engine ∧ t.host = s.host)) ∧
    (∃ t, exec .ackOrFltOutOfWindow s = .next t ∧
      t.bus.mrsDrive = (s.bus.mrsDrive || s.bus.window.isNone) ∧
      t.bus = { s.bus with mrsDrive := t.bus.mrsDrive } ∧ OnlyBus s t)) ∧
  (∀ s : State, s.bus.locked = true → s.bus.inStep = true → s.control.member = true →
    s.bus.restart = true →
    (∀ rest mrs, ∃ t, exec (.transferEnd rest mrs) s = .next t ∧
      t.bus.mrsDrive = s.bus.mrsDrive) ∧
    (∀ started, exec (.recordStartWithoutRound started) s = .next s) ∧
    (∀ req thr started, exec (.arbitrationRound req thr started) s = .next s) ∧
    exec .ackOrFltOutOfWindow s = .next s) ∧
  ∀ s : State, s.bus.locked = true → s.bus.inStep = true → s.bus.restart = false →
    s.control.member = false →
    exec .ackOrFltOutOfWindow s = .next s ∧
    (∀ started, ∃ t, exec (.recordStartWithoutRound started) s = .next t ∧
      t.bus.mrsDrive = s.bus.mrsDrive ∧ OnlyBus s t) ∧
    (∀ req thr started, ∃ t, exec (.arbitrationRound req thr started) s = .next t ∧
      t.bus.mrsDrive = s.bus.mrsDrive) ∧
    (∀ rest mrs, ∃ t, exec (.transferEnd rest mrs) s = .next t ∧
      (t.bus.mrsDrive = true → s.bus.mrsDrive = true))

/-! ### Check windows (R70 to R76, R94, R105, R111 to R116, R151 to R155) -/

/-- Who evaluates and what it drives (R70, R94, R95): a station that is no member drives nothing; a
member drives FLT for a record that fails its form, and else the ACK if the checks of its state pass
and, at the sender, the bytes read back equal those driven, else FLT. AWAITING (R94, R99): a record
addressed to it is a SNAP-HEAD. Otherwise the membership and origin checks (R96, R97), and at a
LOADING joiner addressed the sequence checks (R99, Table 24) with the integrity check at SNAP-END
(R100). The snapshot tracker they read, at a commit (R98): the stations dropped and a LEAVE's sender
lose their tallies and the figures received fall by as much; a SNAP-HEAD for this station, not void,
starts it afresh in LOADING and a SNAP-END returns it to IDLE (its other items there are log entry
29's, DESIGN CHOICE); a SNAP-CLAIM is counted and, unless
its holder is dropped, joins its tally; a SNAP-POOL's figures are held, less what was removed. That
the form checks refuse a sender field of 8 to 15 is the model's choice (log entry 13). -/
def Obligations.EvaluationDrivesAckOrFlt : Prop :=
  (∀ (s : State) (o : OpenRecord), s.bus.locked = true → s.bus.inStep = true →
     (s.control.member = false → driveFor s o = .idle) ∧
     (s.control.member = true → parseRecord o.bytes = none → driveFor s o = .flt) ∧
     (∀ r, s.control.member = true → parseRecord o.bytes = some r →
       o.own = false ∨ s.request.own = none →
       driveFor s o = if stateChecks s o.frozen r then .ack r else .flt) ∧
     (∀ r own, s.control.member = true → parseRecord o.bytes = some r → o.own = true →
       s.request.own = some own →
       driveFor s o = if stateChecks s o.frozen r = true ∧ own.contents = o.bytes then .ack r
         else .flt)) ∧
  (∀ (s : State) (frozen : Bool) (r : Record), s.control.awaiting = true →
    (stateChecks s frozen r = true ↔
      (r.body.target = some s.me → r.body.kind = .snapHead))) ∧
  (∀ (s : State) (frozen : Bool) (r : Record), s.control.awaiting = false →
    (s.control.loading = true → r.body.target ≠ some s.me) →
    (stateChecks s frozen r = true ↔
      (r.body.kind.ordinary = true ∨ r.body = .leave → s.bus.roster[r.sender] ≠ .absent) ∧
      (r.body.kind.ordinary = true → frozen = false) ∧
      (∀ code, r.body = .join code → code = s.host.site) ∧
      (∀ target, r.body.target = some target →
        donorOf s.bus.roster s.bus.syncList = some r.sender ∧
        s.bus.syncList.head? = some target))) ∧
  (∀ (s : State) (frozen : Bool) (r : Record), s.control.loading = true →
    r.body.target = some s.me →
    let x := s.bus.tracker
    (stateChecks s frozen r = true ↔
      donorOf s.bus.roster s.bus.syncList = some r.sender ∧
      s.bus.syncList.head? = some s.me ∧
      (∀ slot c, r.body = .snapClaim s.me slot c → x.phase = .loading ∧ x.nextPool = 0 ∧
        ∀ last, x.lastSlot = some last → last < slot) ∧
      (∀ p f, r.body = .snapPool s.me p f → x.phase = .loading ∧ x.nextPool = p.val) ∧
      (∀ count, r.body = .snapEnd s.me count → x.phase = .loading ∧ x.nextPool = 8 ∧
        count = x.received ∧ ∀ p : PoolNo, ∃ f, x.figures[p] = some f ∧
          f.granted = ((sumOver 8 fun h => x.tally[p][h].heldUnits : Nat) : Int) ∧
          f.waiting = ((sumOver 8 fun h => x.tally[p][h].waiting : Nat) : Int)))) ∧
  ∀ (me : StationNo) (r : Record) (drop : List StationNo) (isVoid : Bool) (x : Tracker),
    let gone (h : StationNo) : Bool := drop.contains h || (r.body == .leave && h == r.sender)
    let kept (p : PoolNo) (h : StationNo) : Tally := if gone h then ⟨0, 0⟩ else x.tally[p][h]
    let lowered (p : PoolNo) (f : Figures) : Figures :=
      ⟨f.granted - (sumOver 8 fun h => if gone h then x.tally[p][h].heldUnits else 0 : Nat),
        f.waiting - (sumOver 8 fun h => if gone h then x.tally[p][h].waiting else 0 : Nat)⟩
    let y := x.commit me r drop isVoid
    (r.body.target = some me → r.body.kind = .snapHead → isVoid = false →
      y = { Tracker.idle with phase := .loading }) ∧
    (r.body.target = some me → r.body.kind = .snapEnd → isVoid = false → y = Tracker.idle) ∧
    (r.body.target ≠ some me ∨ isVoid = true ∧
        (r.body.kind = .snapHead ∨ r.body.kind = .snapEnd) →
      y.phase = x.phase ∧ y.lastSlot = x.lastSlot ∧ y.nextPool = x.nextPool ∧
      y.received = x.received ∧ (∀ (p : PoolNo) (h : StationNo), y.tally[p][h] = kept p h) ∧
      ∀ p : PoolNo, y.figures[p] = x.figures[p].map (lowered p)) ∧
    (∀ slot c, r.body = .snapClaim me slot c →
      y.phase = x.phase ∧ y.lastSlot = some slot ∧ y.nextPool = x.nextPool ∧
      y.received = x.received + 1 ∧
      (∀ (p : PoolNo) (h : StationNo), y.tally[p][h] =
        if p = c.pool ∧ h = c.holder ∧ c.holder ∉ drop then
          (if c.state = .held
            then { x.tally[p][h] with heldUnits := x.tally[p][h].heldUnits + c.units.toNat }
            else { x.tally[p][h] with waiting := x.tally[p][h].waiting + 1 })
        else kept p h) ∧
      ∀ p : PoolNo, y.figures[p] = x.figures[p].map (lowered p)) ∧
    (∀ q f, r.body = .snapPool me q f →
      y.phase = x.phase ∧ y.lastSlot = x.lastSlot ∧ y.nextPool = x.nextPool + 1 ∧
      y.received = x.received ∧ (∀ (p : PoolNo) (h : StationNo), y.tally[p][h] = kept p h) ∧
      ∀ p : PoolNo, y.figures[p] =
        if p = q then some (lowered q ⟨(f.granted.toNat : Int), (f.waiting : Int)⟩)
        else x.figures[p].map (lowered p))

/-- CHECK_WINDOW_CLOSE as an abort of another station's record (R71): it leaves the open list and
takes no number; no counter, roster, list, queue, replica or station state changes. The window of
the next open record opens with what this station drives for it; with none, no window is in
progress (R69, R70). -/
def Obligations.AbortChangesNothingCommitted : Prop :=
  ∀ (ack : BitVec 8) (d : Drive) (o : OpenRecord) (rest : List OpenRecord) (s : State),
    s.bus.window = some d → s.bus.openList = o :: rest → o.own = false →
    (∀ r, d = .ack r → lineOf ack s.me = true) →
    ∃ t, exec (.checkWindowClose ack true) s = .next t ∧ t.bus.openList = rest ∧
    t.bus = { s.bus with openList := rest, window := rest.head?.map (driveFor s) } ∧
    t.engine = s.engine ∧ t.control = s.control ∧ t.host = s.host ∧ t.pending = s.pending ∧
    t.request.lrq = s.request.lrq ∧ t.request.outcomes = s.request.outcomes ∧
    t.request.completions = s.request.completions ∧
    (s.request.own ≠ none → t.request = s.request)

/-- CHECK_WINDOW_CLOSE as a commit of another station's ordinary record at a member ACTIVE, or LEAVING
and no longer treated as SYNCING (R72 to R74, R105, R114): the counter advances by one and the record takes its value; the silent stations of the
roster are the drop set, become ABSENT and leave the sync list; the entry joins the apply queue; the
replica and the request lists are not touched; the window of the next open record opens with what
this station drives for it after the commit (R69, R70). The drop set (R73) is the stations ACTIVE or SYNCING
in the roster whose ACK lines are released, never this station. -/
def Obligations.OrdinaryCommitIsNumberedAndQueued : Prop :=
  (∀ (ack : BitVec 8) (r : Record) (o : OpenRecord) (rest : List OpenRecord) (s : State),
     s.control.station = .active ∨ s.control.station = .leaving → s.control.phaseKept = false →
     s.bus.roster[s.me] = .active → s.bus.window = some (.ack r) → s.bus.openList = o :: rest →
     o.own = false → lineOf ack s.me = true → r.body.kind.ordinary = true →
     let gone := dropSet s.me s.bus.roster ack
     ∃ t, exec (.checkWindowClose ack false) s = .next t ∧
     (∀ k : StationNo, t.bus.roster[k] = if k ∈ gone then .absent else s.bus.roster[k]) ∧
     t.bus.syncList = s.bus.syncList.filter (fun k => !gone.contains k) ∧
     t.bus.applyQueue = s.bus.applyQueue ++ [⟨s.bus.commit + 1#32, r, gone, gone.contains r.sender,
       !t.bus.syncList.isEmpty, !s.bus.syncList.isEmpty && t.bus.syncList.isEmpty⟩] ∧
     t.bus = { s.bus with
       commit := s.bus.commit + 1#32, openList := rest, window := t.bus.window
       roster := t.bus.roster, syncList := t.bus.syncList, applyQueue := t.bus.applyQueue } ∧
     t.control = s.control ∧ t.host.site = s.host.site ∧ t.host.mask = s.host.mask ∧
     t.host.lastCmd = s.host.lastCmd ∧
     t.engine.pools = s.engine.pools ∧ t.engine.slots = s.engine.slots ∧
     t.engine.digest = s.engine.digest ∧ t.engine.commit = s.engine.commit ∧
     t.request.lrq = s.request.lrq ∧ t.request.outcomes = s.request.outcomes ∧
     t.request.completions = s.request.completions ∧ t.pending = s.pending ∧
     (rest = [] → t.bus.window = none) ∧
     ∀ next more, rest = next :: more → next.own = false ∨ s.ownOnBus ≠ none →
       t.bus.window = some (driveFor t next)) ∧
  ∀ (me k : StationNo) (roster : Roster) (ack : BitVec 8),
    k ∈ dropSet me roster ack ↔ k ≠ me ∧ roster[k] ≠ .absent ∧ lineOf ack k = false

/-- Commits of another station's membership and snapshot records (R105, R120, R122, R124, R76). At an
ACTIVE member: a JOIN's sender is SYNCING at the tail of the sync list, and the freeze is in force; a
LEAVE's sender is ABSENT and off the list; a SNAP-END's target, another station at the head of the
list, is ACTIVE and off it; FREEZE, DONATION and the cursor follow the change. The no-donor rule
(R106): where the drop set or a LEAVE takes the last ACTIVE station, a LOADING station, or a LEAVING
one still SYNCING in its own roster, enters OUTSIDE with NO_DONOR, and a LEAVE not yet won is
discarded. At an AWAITING member (R130): the commit is numbered and appended, roster and sync list
stay empty, and a snapshot record starts the timer again while it is SYNCING (R140). At a LEAVING
member treated as SYNCING (R114): a SNAP-HEAD addressed to it begins LOADING; a SNAP-END ends the
phase, with no ACTIVE event, no AUDIT, the join commit kept, and the station stays LEAVING. -/
def Obligations.JoinCommitBeginsTheFreeze : Prop :=
  (∀ (ack : BitVec 8) (code : BitVec 16) (k : StationNo) (o : OpenRecord)
    (rest : List OpenRecord) (s : State),
    s.control.station = .active → s.control.phaseKept = false →
    s.bus.roster[s.me] = .active → k ≠ s.me → k ∉ s.bus.syncList →
    s.bus.window = some (.ack ⟨k, .join code⟩) → s.bus.openList = o :: rest → o.own = false →
    lineOf ack s.me = true → ∃ t, exec (.checkWindowClose ack false) s = .next t ∧
    t.bus.commit = s.bus.commit + 1#32 ∧ t.bus.roster[k] = .syncing ∧
    t.bus.syncList = s.bus.syncList.filter
      (fun j => !(dropSet s.me s.bus.roster ack).contains j) ++ [k] ∧
    t.freeze = true ∧ (s.freeze = false → t.host.flag .freeze = true) ∧
    (s.freeze = false → s.isDonor = false → t.isDonor = true → t.host.flag .donation = true ∧
      t.request.cursor = ⟨some k, .head, 0, 0, 0⟩) ∧
    t.control = s.control ∧ t.engine.pools = s.engine.pools ∧ t.engine.slots = s.engine.slots ∧
    t.request.lrq = s.request.lrq ∧ t.request.completions = s.request.completions ∧
    t.request.outcomes = s.request.outcomes) ∧
  (∀ (ack : BitVec 8) (r : Record) (left : StationNo) (o : OpenRecord) (rest : List OpenRecord)
    (s : State),
    s.control.station = .active → s.control.phaseKept = false →
    s.bus.roster[s.me] = .active → left ≠ s.me → s.bus.syncList.Nodup →
    (r.body = .leave ∧ left = r.sender ∨ ∃ count, r.body = .snapEnd left count ∧
      s.bus.syncList.head? = some left ∧ lineOf ack r.sender = true) →
    s.bus.window = some (.ack r) → s.bus.openList = o :: rest → o.own = false →
    lineOf ack s.me = true →
    let gone := dropSet s.me s.bus.roster ack
    ∃ t, exec (.checkWindowClose ack false) s = .next t ∧
    t.bus.commit = s.bus.commit + 1#32 ∧
    (∀ k : StationNo, t.bus.roster[k] = if k ∈ gone then .absent
      else if k = left then (if r.body = .leave then .absent else .active)
      else s.bus.roster[k]) ∧
    t.bus.syncList = s.bus.syncList.filter (fun k => !gone.contains k && k != left) ∧
    t.bus.applyQueue = s.bus.applyQueue ++ [⟨s.bus.commit + 1#32, r, gone, gone.contains r.sender,
      !t.bus.syncList.isEmpty, !s.bus.syncList.isEmpty && t.bus.syncList.isEmpty⟩] ∧
    FreezeAndDonationFollow s t ∧
    t.control = s.control ∧ t.bus.joinCommit = s.bus.joinCommit ∧
    t.engine.pools = s.engine.pools ∧ t.engine.slots = s.engine.slots ∧
    t.request.lrq = s.request.lrq ∧ t.request.completions = s.request.completions ∧
    t.request.outcomes = s.request.outcomes) ∧
  (∀ (ack : BitVec 8) (r : Record) (o : OpenRecord) (rest : List OpenRecord) (s : State),
    s.control.loading = true → s.bus.roster[s.me] = .syncing → s.me ∈ s.bus.syncList →
    r.body.kind.ordinary = true ∨ r.body = .leave → r.sender ≠ s.me →
    s.bus.window = some (.ack r) → s.bus.openList = o :: rest → o.own = false →
    lineOf ack s.me = true →
    (∀ k : StationNo, s.bus.roster[k] = .active →
      k ∈ dropSet s.me s.bus.roster ack ∨ r.body = .leave ∧ k = r.sender) →
    ∃ t, exec (.checkWindowClose ack false) s = .next t ∧
    t.control.station = .outside ∧ t.control.exitCause = .noDonor ∧
    t.control.syncTimer = .stopped ∧ t.host.flag .outside = true ∧
    t.host.flag .freeze = s.host.flag .freeze ∧ t.bus.commit = s.bus.commit + 1#32 ∧
    (∀ k : StationNo, t.bus.roster[k] = .absent) ∧ t.bus.syncList = [] ∧ t.bus.applyQueue = [] ∧
    t.engine.stale = true ∧ t.engine.current = false ∧ t.engine.pools = s.engine.pools ∧
    t.engine.slots = s.engine.slots ∧ t.request.lrq = [] ∧ t.request.outcomes = [] ∧
    t.host.lastCmd = ⟨.exit, false, s.request.lrq.length⟩ ∧
    (∀ own, s.request.own = some own → own.cond = .chosen → t.request.own = none)) ∧
  (∀ (ack : BitVec 8) (r : Record) (o : OpenRecord) (rest : List OpenRecord) (s : State),
    s.control.awaiting = true → (∀ k : StationNo, s.bus.roster[k] = .absent) →
    s.bus.syncList = [] → r.body.target ≠ some s.me →
    s.bus.window = some (.ack r) → s.bus.openList = o :: rest → o.own = false →
    lineOf ack s.me = true → ∃ t, exec (.checkWindowClose ack false) s = .next t ∧
    t.bus.commit = s.bus.commit + 1#32 ∧ t.bus.roster = s.bus.roster ∧ t.bus.syncList = [] ∧
    t.bus.applyQueue = s.bus.applyQueue ++ [⟨s.bus.commit + 1#32, r, [], false, false, false⟩] ∧
    t.bus.tracker.phase = s.bus.tracker.phase ∧ t.bus.joinCommit = s.bus.joinCommit ∧
    t.control = (if s.control.station = .syncing ∧ r.body.kind.exclusive = true
      then { s.control with syncTimer := .running 200 } else s.control) ∧
    t.host.flag .freeze = s.host.flag .freeze ∧ t.host.flag .active = s.host.flag .active ∧
    t.engine.pools = s.engine.pools ∧ t.engine.slots = s.engine.slots ∧
    t.engine.stale = s.engine.stale ∧ t.engine.current = s.engine.current ∧
    t.request.lrq = s.request.lrq ∧ t.request.completions = s.request.completions) ∧
  ∀ (ack : BitVec 8) (r : Record) (o : OpenRecord) (rest : List OpenRecord) (s : State),
    s.control.station = .leaving → s.control.phaseKept = true →
    s.bus.window = some (.ack r) → s.bus.openList = o :: rest → o.own = false →
    lineOf ack s.me = true → lineOf ack r.sender = true →
    (∀ number (roster : Roster) (list : List StationNo),
      r.body = .snapHead s.me number roster list → roster[r.sender] = .active →
      r.sender ≠ s.me → ∃ t, exec (.checkWindowClose ack false) s = .next t ∧
      t.control = { s.control with phase := .loading } ∧ t.bus.commit = number ∧
      (∀ k : StationNo, t.bus.roster[k] =
        if k ∈ dropSet s.me roster ack then .absent else roster[k]) ∧
      t.bus.syncList = list.filter (fun k => !(dropSet s.me roster ack).contains k) ∧
      t.bus.tracker.phase = .loading ∧ t.host.flag .active = s.host.flag .active) ∧
    (∀ count, r.body = .snapEnd s.me count → s.control.phase = .loading →
      s.bus.syncList.head? = some s.me → s.bus.syncList.Nodup →
      ∃ t, exec (.checkWindowClose ack false) s = .next t ∧
      t.control = { s.control with phaseKept := false } ∧
      t.bus.commit = s.bus.commit + 1#32 ∧ t.bus.joinCommit = s.bus.joinCommit ∧
      t.bus.roster[s.me] = .active ∧ s.me ∉ t.bus.syncList ∧ t.bus.tracker.phase = .idle ∧
      t.host.flag .active = s.host.flag .active ∧ t.request.auditDue = s.request.auditDue)

/-- A member whose own ACK did not reach the line at a close, commit or abort, takes itself to be
dropped (R75, R116, R117, R157): OUTSIDE with DROPPED, no number, no entry, the LRQ discarded and
counted, the cursor IDLE with target none and the tracker IDLE (their other items are log entries 28
and 29, DESIGN CHOICE), the replica stale as last applied. The outcome list is cancelled in order,
then a chosen record that has won once and a held one are CANCELLED, and the own record of this
window is VOID at a commit and CANCELLED at an abort (R155, R156; the order is log entry 8's,
DEDUCED); a chosen record that has not won ends without a completion, and an own record open
elsewhere stays open. FREEZE is
not set (log entry 9). -/
def Obligations.MissingAckDropsTheStation : Prop :=
  ∀ (ack : BitVec 8) (flt : Bool) (r : Record) (o : OpenRecord) (rest : List OpenRecord)
    (s : State),
    s.bus.window = some (.ack r) → s.bus.openList = o :: rest → lineOf ack s.me = false →
    let cancelled : List Completion := s.request.outcomes.map OutcomeEntry.cancelled
    let ended (q : Request) (how : Outcome) : Completion :=
      ⟨q.ref, q.demand.code, how, q.demand.slot, .none, none⟩
    ∃ t, exec (.checkWindowClose ack flt) s = .next t ∧
    t.control.station = .outside ∧ t.control.exitCause = .dropped ∧
    t.control.syncTimer = .stopped ∧ t.control.leaveHeld = false ∧
    t.bus.openList = rest ∧ t.bus.commit = s.bus.commit ∧ t.bus.applyQueue = [] ∧
    (∀ k : StationNo, t.bus.roster[k] = .absent) ∧ t.bus.syncList = [] ∧
    t.bus.joinCommit = s.bus.joinCommit ∧ t.bus.tracker = Tracker.idle ∧
    t.bus.locked = s.bus.locked ∧ t.bus.inStep = s.bus.inStep ∧ t.host.site = s.host.site ∧
    t.host.mask = s.host.mask ∧ t.host.find = s.host.find ∧
    t.engine = { s.engine with stale := true, current := false, historyRunning := false } ∧
    t.request.outcomes = [] ∧ t.request.lrq = [] ∧ t.request.auditDue = false ∧
    t.request.held = none ∧ t.request.cursor = ⟨none, .idle, 0, 0, 0⟩ ∧
    t.host.lastCmd = ⟨.exit, false, s.request.lrq.length⟩ ∧ t.host.flag .outside = true ∧
    (s.isDonor = true → t.host.flag .donation = true) ∧
    t.host.flag .freeze = s.host.flag .freeze ∧
    (s.request.own = none → s.request.held = none →
      t.request.own = none ∧ t.request.completions = s.request.completions ++ cancelled) ∧
    (∀ own, s.request.own = some own → own.cond = .chosen → t.request.own = none) ∧
    (∀ own q entry, s.request.own = some own → own.cond = .chosen →
      own.what = .ordinary q entry → s.request.held = none →
      t.request.completions = s.request.completions ++ cancelled ++
        (if own.won then [ended q .cancelled] else [])) ∧
    (∀ own, s.request.own = some own → own.cond = .onBus → o.own = false →
      s.request.held = none → t.request.own = some own ∧
      t.request.completions = s.request.completions ++ cancelled) ∧
    (∀ own q entry, s.request.own = some own → own.cond = .onBus → o.own = true →
      own.what = .ordinary q entry → s.request.held = none → t.request.own = none ∧
      t.request.completions = s.request.completions ++ cancelled ++
        [ended q (if flt then .cancelled else .void)]) ∧
    (∀ own, s.request.own = some own → own.cond = .onBus → o.own = true →
      (∀ q entry, own.what ≠ .ordinary q entry) → s.request.held = none → t.request.own = none ∧
      t.request.completions = s.request.completions ++ cancelled) ∧
    (∀ held q entry, s.request.own = none → s.request.held = some held →
      held.what = .ordinary q entry →
      t.request.completions = s.request.completions ++ cancelled ++ [ended q .cancelled])

/-- The own JOIN commits (R72, R104, R111): number 1; with no ACK asserted the station founds a group
and is ACTIVE, alone in the roster; with any ACK asserted it is SYNCING / AWAITING with its timer
running and no roster. The JOIN's entry joins the apply queue with the flags of R28. A LEAVE held
until then is taken in the new state (R109): the station is LEAVING with reason LEFT, keeps the
phase AWAITING where it joined, its timer is stopped and a LEAVE is its next own record; at a
founding ACTIVE is set all the same. -/
def Obligations.OwnJoinFoundsOrJoins : Prop :=
  ∀ (ack : BitVec 8) (own : Own) (o : OpenRecord) (rest : List OpenRecord) (s : State),
    s.control.station = .joining →
    s.bus.window = some .idle → s.bus.openList = o :: rest → o.own = true →
    s.request.own = some own → own.what = .join → own.cond = .onBus →
    ∃ t, exec (.checkWindowClose ack false) s = .next t ∧ t.bus.commit = 1#32 ∧
    t.bus.syncList = [] ∧ t.control.exitCause = s.control.exitCause ∧
    t.control.leaveHeld = false ∧
    t.engine.pools = s.engine.pools ∧ t.engine.slots = s.engine.slots ∧
    t.engine.digest = s.engine.digest ∧ t.engine.commit = s.engine.commit ∧
    t.request.lrq = s.request.lrq ∧ t.request.outcomes = s.request.outcomes ∧
    (s.control.leaveHeld = false ∨ s.request.held = none →
      t.request.completions = s.request.completions) ∧
    t.bus.applyQueue = s.bus.applyQueue ++
      [⟨1#32, ⟨s.me, .join s.host.site⟩, [], false, ack != 0#8, false⟩] ∧
    (ack = 0#8 → t.bus.joinCommit = 1#32 ∧ t.host.flag .active = true ∧
      (∀ k : StationNo, t.bus.roster[k] = if k = s.me then .active else .absent)) ∧
    (ack ≠ 0#8 → t.bus.joinCommit = s.bus.joinCommit ∧
      t.host.flag .active = s.host.flag .active ∧
      (∀ k : StationNo, t.bus.roster[k] = .absent) ∧ t.control.phase = .awaiting) ∧
    (s.control.leaveHeld = false → ack = 0#8 → t.control.station = .active) ∧
    (s.control.leaveHeld = false → ack ≠ 0#8 → t.control.station = .syncing ∧
      t.control.syncTimer = .running 200 ∧ t.request.own = none) ∧
    (s.control.leaveHeld = true → t.control.station = .leaving ∧
      t.control.leaveReason = .left ∧ t.control.syncTimer = .stopped ∧
      t.control.phaseKept = (ack != 0#8) ∧ t.request.own = some (Own.fresh .leave))

/-- The own ordinary record commits at an ACTIVE member (R152, R78): it enters the outcome list with its
number, kind, ref and slot, its place stays reserved, and no completion is posted yet. The own LEAVE
commits with its ACK asserted (R115): OUTSIDE with the leave reason, the record without a
completion. A donor's own SNAP-HEAD, SNAP-CLAIM or SNAP-POOL commits with no station dropped (R127):
the cursor moves on to the next record. -/
def Obligations.OwnRecordsCommit : Prop :=
  (∀ (ack : BitVec 8) (own : Own) (q : Request) (entry : Bool) (r : Record) (o : OpenRecord)
     (rest : List OpenRecord) (s : State),
     s.control.station = .active → s.control.phaseKept = false → s.bus.roster[s.me] = .active →
     s.bus.window = some (.ack r) → s.bus.openList = o :: rest → o.own = true →
     s.request.own = some own → own.what = .ordinary q entry → own.cond = .onBus →
     r.body.kind.ordinary = true → lineOf ack s.me = true →
     s.request.lrq = [] → s.request.held = none → s.request.auditDue = false →
     ∃ t, exec (.checkWindowClose ack false) s = .next t ∧ t.request.own = none ∧
     t.request.outcomes = s.request.outcomes ++
       [⟨s.bus.commit + 1#32, q.demand.code, q.ref, q.demand.slot⟩] ∧
     t.bus.commit = s.bus.commit + 1#32 ∧ t.engine.pools = s.engine.pools ∧
     t.engine.slots = s.engine.slots ∧ t.request.reserved = s.request.reserved ∧
     t.request.completions = s.request.completions ∧ t.control = s.control) ∧
  (∀ (ack : BitVec 8) (own : Own) (r : Record) (o : OpenRecord) (rest : List OpenRecord) (s : State),
     s.control.station = .leaving → s.bus.window = some (.ack r) → s.bus.openList = o :: rest →
     o.own = true → s.request.own = some own → own.what = .leave → own.cond = .onBus →
     lineOf ack s.me = true → s.request.held = none → s.request.outcomes = [] →
     ∃ t, exec (.checkWindowClose ack false) s = .next t ∧
     t.control.station = .outside ∧ t.control.exitCause = s.control.leaveReason.exitCause ∧
     t.request.own = none ∧ t.request.completions = s.request.completions ∧
     t.host.flag .outside = true ∧ t.engine.stale = true ∧ t.bus.applyQueue = []) ∧
  ∀ (ack : BitVec 8) (own : Own) (b : Body) (o : OpenRecord) (rest : List OpenRecord) (s : State),
    s.control.station = .active → s.control.phaseKept = false → s.bus.roster[s.me] = .active →
    s.isDonor = true → dropSet s.me s.bus.roster ack = [] →
    s.bus.window = some (.ack ⟨s.me, b⟩) → s.bus.openList = o :: rest → o.own = true →
    s.request.own = some own → own.what = .snapshot b → own.cond = .onBus →
    lineOf ack s.me = true →
    ∃ t, exec (.checkWindowClose ack false) s = .next t ∧
    (∀ target number roster list, b = .snapHead target number roster list →
      t.request.own = none ∧ t.request.cursor = { s.request.cursor with
        phase := .claims, nextSlot := 0, count := 0 }) ∧
    (∀ target slot c, b = .snapClaim target slot c →
      t.request.own = none ∧ t.request.cursor = { s.request.cursor with
        nextSlot := slot.val + 1, count := s.request.cursor.count + 1 }) ∧
    (∀ target p f, b = .snapPool target p f →
      t.request.own = none ∧
      (p.val < 7 → t.request.cursor = { s.request.cursor with nextPool := p.val + 1 }) ∧
      (p.val = 7 → t.request.cursor = { s.request.cursor with nextPool := 8, phase := .finish }))

/-- Aborts of the station's own records. By fault (R71, R153), where it drove FLT or where it drove
its ACK and another asserted FLT: an ordinary record at an ACTIVE station is chosen again after the
first, or held under the freeze, its restart-abort count 0, and is given up with FAILED_BUS at the
second; a JOIN (R112) and a LEAVE (R115) are chosen again after the first, and at the second the
station enters OUTSIDE with JOIN_FAILED, or with the leave reason; a JOIN with a LEAVE held is not
offered again: OUTSIDE with LEFT (R109); a snapshot record is discarded, to be rebuilt. None of these
receives a completion (R158). By restart episode (R154), an ordinary record at an ACTIVE station: up
to the third it is chosen again, or held under the freeze, its fault-abort count as it stands; at the
fourth it is given up with FAILED_BUS. -/
def Obligations.AbortsResendThenFail : Prop :=
  (∀ (ack : BitVec 8) (d : Drive) (own : Own) (o : OpenRecord) (rest : List OpenRecord) (s : State),
     s.bus.window = some d → (d = .flt ∨ ∃ r, d = .ack r ∧ lineOf ack s.me = true) →
     s.bus.openList = o :: rest → o.own = true → s.request.own = some own → own.cond = .onBus →
     s.request.held = none →
     ∃ t, exec (.checkWindowClose ack true) s = .next t ∧ t.bus.commit = s.bus.commit ∧
     (∀ q entry, own.what = .ordinary q entry → s.control.station = .active →
       t.control = s.control ∧ t.engine = s.engine ∧ t.bus.roster = s.bus.roster ∧
       t.bus.applyQueue = s.bus.applyQueue ∧
       (own.faults = 0 → s.freeze = false →
         t.request = { s.request with
           own := some { own with cond := .chosen, faults := 1, restarts := 0 } }) ∧
       (own.faults = 0 → s.freeze = true →
         t.request = { s.request with
           own := none, held := some { own with cond := .chosen, faults := 1, restarts := 0 } }) ∧
       (1 ≤ own.faults →
         t.request.completions = s.request.completions ++
           [⟨q.ref, q.demand.code, .failedBus, q.demand.slot, .none, none⟩] ∧
         t.host.flag .completion = true)) ∧
     (own.what = .leave → s.control.station = .leaving →
       (own.faults = 0 → t.control = s.control ∧ t.engine = s.engine ∧
         t.request = { s.request with
           own := some { own with cond := .chosen, faults := 1, restarts := 0 } }) ∧
       (1 ≤ own.faults → t.control.station = .outside ∧
         t.control.exitCause = s.control.leaveReason.exitCause ∧ t.request.own = none ∧
         t.request.completions =
           s.request.completions ++ s.request.outcomes.map OutcomeEntry.cancelled)) ∧
     (∀ b, own.what = .snapshot b → s.control.station = .active → s.freeze = true →
       t.control = s.control ∧ t.engine = s.engine ∧
       t.request = { s.request with own := none })) ∧
  (∀ (ack : BitVec 8) (own : Own) (o : OpenRecord) (rest : List OpenRecord) (s : State),
     s.bus.window = some .idle → s.bus.openList = o :: rest → o.own = true →
     s.request.own = some own → own.what = .join → own.cond = .onBus →
     s.control.station = .joining → s.request.held = none →
     ∃ t, exec (.checkWindowClose ack true) s = .next t ∧ t.bus.commit = s.bus.commit ∧
     (s.control.leaveHeld = false → own.faults = 0 → t.control = s.control ∧
       t.engine = s.engine ∧ t.request = { s.request with
         own := some { own with cond := .chosen, faults := 1, restarts := 0 } }) ∧
     (s.control.leaveHeld = true ∨ 1 ≤ own.faults → t.control.station = .outside ∧
       t.control.exitCause = (if s.control.leaveHeld then .left else .joinFailed) ∧
       t.control.leaveHeld = false ∧ t.request.own = none ∧ t.request.completions =
         s.request.completions ++ s.request.outcomes.map OutcomeEntry.cancelled)) ∧
  ∀ (own : Own) (q : Request) (entry : Bool) (s : State),
    s.bus.locked = true → s.control.station = .active → s.request.own = some own →
    own.what = .ordinary q entry → own.cond = .onBus → s.request.held = none →
    ∃ t, exec .restartEpisodeBegin s = .next t ∧
    t.bus = { s.bus with openList := [], inTransfer := none, window := none, restart := true } ∧
    t.engine = s.engine ∧ t.control = s.control ∧
    (own.restarts < 3 → s.freeze = false →
      t.request = { s.request with
        own := some { own with cond := .chosen, restarts := own.restarts + 1 } }) ∧
    (own.restarts < 3 → s.freeze = true →
      t.request = { s.request with
        own := none, held := some { own with cond := .chosen, restarts := own.restarts + 1 } }) ∧
    (3 ≤ own.restarts →
      t.request.completions = s.request.completions ++
        [⟨q.ref, q.demand.code, .failedBus, q.demand.slot, .none, none⟩] ∧
      t.host.flag .completion = true)

/-- Snapshot records addressed to a SYNCING station commit, not void (R72, R98, R104, R113, R121,
R132, R140). The head, in either phase: LOADING, the counter takes E, roster and list are the
record's less the drop set, the tracker starts afresh, the freeze is in force and FREEZE is set
where the list carries this station. A claim or pool: the counter advances, the phase stays, the
tracker counts it (R98). Each starts the sync timer again. The end: ACTIVE, the join commit its
number, the timer stopped, ACTIVE set, and the entry AUDIT: due while the freeze is in force, with a
held record before it or with no place free, else chosen (R113, R138, R147). None of them touches
the tables before it is applied. Of an IDLE tracker the items beside the phase are log entry 29's
(DESIGN CHOICE). -/
def Obligations.SnapshotMovesTheJoiner : Prop :=
  ∀ (ack : BitVec 8) (donor : StationNo) (o : OpenRecord) (rest : List OpenRecord) (s : State),
    s.control.station = .syncing → s.bus.openList = o :: rest → o.own = false →
    lineOf ack s.me = true → lineOf ack donor = true → donor ≠ s.me → s.request.own = none →
    (∀ t, exec (.checkWindowClose ack false) s = .next t →
      t.engine.pools = s.engine.pools ∧ t.engine.slots = s.engine.slots) ∧
    (∀ number (roster : Roster) (list : List StationNo),
      s.bus.window = some (.ack ⟨donor, .snapHead s.me number roster list⟩) →
      roster[donor] = .active →
      ∃ t, exec (.checkWindowClose ack false) s = .next t ∧ t.bus.commit = number ∧
      t.control.station = .syncing ∧ t.control.phase = .loading ∧
      t.control.syncTimer = .running 200 ∧
      (∀ k : StationNo, t.bus.roster[k] =
        if k ∈ dropSet s.me roster ack then .absent else roster[k]) ∧
      t.bus.syncList = list.filter (fun k => !(dropSet s.me roster ack).contains k) ∧
      t.bus.tracker = { Tracker.idle with phase := .loading } ∧
      (s.me ∈ list → t.freeze = true ∧ t.host.flag .freeze = true)) ∧
    (∀ b, s.control.phase = .loading → s.bus.window = some (.ack ⟨donor, b⟩) →
      b.target = some s.me → (b.kind = .snapClaim ∨ b.kind = .snapPool) →
      s.bus.roster[donor] = .active →
      ∃ t, exec (.checkWindowClose ack false) s = .next t ∧
      t.bus.commit = s.bus.commit + 1#32 ∧ t.control.station = .syncing ∧
      t.control.phase = .loading ∧ t.control.syncTimer = .running 200 ∧
      t.bus.tracker =
        s.bus.tracker.commit s.me ⟨donor, b⟩ (dropSet s.me s.bus.roster ack) false) ∧
    (∀ count, s.control.phase = .loading →
      s.bus.window = some (.ack ⟨donor, .snapEnd s.me count⟩) →
      s.bus.syncList.head? = some s.me → s.bus.syncList.Nodup → s.bus.roster[donor] = .active →
      ∃ t, exec (.checkWindowClose ack false) s = .next t ∧
      t.bus.commit = s.bus.commit + 1#32 ∧ t.control.station = .active ∧
      t.bus.joinCommit = s.bus.commit + 1#32 ∧ t.bus.roster[s.me] = .active ∧
      s.me ∉ t.bus.syncList ∧ t.control.syncTimer = .stopped ∧ t.host.flag .active = true ∧
      t.bus.tracker = Tracker.idle ∧
      t.request.lrq = s.request.lrq ∧
      (t.request.auditDue = true ∨
        t.request.own = some (Own.fresh (.ordinary ⟨0xFF#8, .audit⟩ true))) ∧
      (t.freeze = true → t.request.own = none ∧ t.request.auditDue = true) ∧
      (∀ h, t.freeze = false → s.request.held = some h →
        t.request.own = some { h with cond := .chosen } ∧ t.request.auditDue = true) ∧
      (t.freeze = false → s.request.held = none → 0 < s.request.freePlaces →
        t.request.own = some (Own.fresh (.ordinary ⟨0xFF#8, .audit⟩ true)) ∧
        t.request.auditDue = false ∧ t.request.reserved = s.request.reserved + 1) ∧
      (t.freeze = false → s.request.held = none → s.request.freePlaces = 0 →
        t.request.own = none ∧ t.request.auditDue = true))

/-! ### Restart episodes (R81 to R83, R154) -/

/-- RESTART_EPISODE_BEGIN (R82): a LOCKED station discards its uncommitted records and releases REQ and
the lines of a window; roster, sync list, counter, apply queue, tracker and replica are left. An own
record on the bus is restart-aborted (R154): a JOIN or a LEAVE is chosen again up to the third abort
in a row, and at the fourth the station enters OUTSIDE with JOIN_FAILED, or with the leave reason
(R112, R115); a JOIN with a LEAVE held is not offered again (R109); a snapshot record is discarded,
to be rebuilt; none receives a completion (R158); an ordinary record of a station that has left is
CANCELLED (R155), and so it is where its window closes first, as a commit or as an abort, at a
station OUTSIDE or JOINING anew, whose JOIN is then chosen (R78, R108). MRS_RELEASE (R81): this station releases MRS, and nothing else changes.
RESTART_EPISODE_END (R83): every LOCKED station has turn pointer 7, is in step and sets RESTART; a
station that is not LOCKED is left as it is. The episode has not ended while this station still
asserts MRS (log entry 18). -/
def Obligations.RestartEpisodeRunsItsCourse : Prop :=
  (∀ s : State, s.bus.locked = true →
     ∃ t, exec .restartEpisodeBegin s = .next t ∧ t.reqDriven = false ∧ t.priDriven = false ∧
     t.ackDriven = false ∧ t.fltDriven = false ∧ t.dataDriven = false ∧ t.pending = s.pending ∧
     t.bus.openList = [] ∧ t.bus.inTransfer = none ∧ t.bus.window = none ∧
     t.bus.restart = true ∧ t.bus.commit = s.bus.commit ∧
     (s.ownOnBus = none →
       t.bus = { s.bus with openList := [], inTransfer := none, window := none, restart := true } ∧
       t.engine = s.engine ∧ t.control = s.control ∧ t.host = s.host ∧
       t.request.lrq = s.request.lrq ∧ t.request.outcomes = s.request.outcomes ∧
       t.request.completions = s.request.completions ∧ t.request.cursor = s.request.cursor ∧
       (s.request.own ≠ none ∨ s.control.station = .config ∨ s.control.station = .outside ∨
         s.control.station = .syncing ∨ s.control.station = .active ∧ s.freeze = true →
         t.request = s.request)) ∧
     (∀ own, s.request.own = some own → own.cond = .onBus → s.request.held = none →
       (own.what = .join ∧ s.control.station = .joining ∧ s.control.leaveHeld = false ∨
         own.what = .leave ∧ s.control.station = .leaving → own.restarts < 3 →
         t.control = s.control ∧ t.engine = s.engine ∧ t.host = s.host ∧
         t.request = { s.request with
           own := some { own with cond := .chosen, restarts := own.restarts + 1 } }) ∧
       (own.what = .join → s.control.station = .joining →
         s.control.leaveHeld = true ∨ 3 ≤ own.restarts → t.control.station = .outside ∧
         t.control.exitCause = (if s.control.leaveHeld then .left else .joinFailed) ∧
         t.request.own = none ∧ t.request.completions =
           s.request.completions ++ s.request.outcomes.map OutcomeEntry.cancelled) ∧
       (own.what = .leave → s.control.station = .leaving → 3 ≤ own.restarts →
         t.control.station = .outside ∧
         t.control.exitCause = s.control.leaveReason.exitCause ∧ t.request.own = none ∧
         t.request.completions =
           s.request.completions ++ s.request.outcomes.map OutcomeEntry.cancelled) ∧
       (∀ b, own.what = .snapshot b → s.control.station = .active → s.freeze = true →
         t.control = s.control ∧ t.engine = s.engine ∧
         t.request = { s.request with own := none }) ∧
       (∀ q entry, own.what = .ordinary q entry → s.control.station = .outside →
         t.control = s.control ∧ t.request.own = none ∧
         t.request.completions = s.request.completions ++
           [⟨q.ref, q.demand.code, .cancelled, q.demand.slot, .none, none⟩]))) ∧
  (∀ (ack : BitVec 8) (flt : Bool) (own : Own) (q : Request) (entry : Bool) (o : OpenRecord)
     (rest : List OpenRecord) (s : State),
     s.control.station = .outside ∨ s.control.station = .joining →
     s.bus.window = some .idle → s.bus.openList = o :: rest → o.own = true →
     s.request.own = some own → own.what = .ordinary q entry → own.cond = .onBus →
     ∃ t, exec (.checkWindowClose ack flt) s = .next t ∧ t.control = s.control ∧
     t.engine = s.engine ∧ t.bus = { s.bus with openList := rest, window := t.bus.window } ∧
     t.request.completions = s.request.completions ++
       [⟨q.ref, q.demand.code, .cancelled, q.demand.slot, .none, none⟩] ∧
     t.request.reserved = s.request.reserved - 1 ∧ t.host.flag .completion = true ∧
     (s.control.station = .outside → t.request.own = none) ∧
     (s.control.station = .joining → t.request.own = some (Own.fresh .join))) ∧
  (∀ s : State, ∃ t, exec .mrsRelease s = .next t ∧
     t = { s with bus := { s.bus with mrsDrive := false } } ∧ t.mrsDriven = false) ∧
  ∀ s : State, s.bus.mrsDrive = false →
    (s.bus.locked = true → ∃ t, exec .restartEpisodeEnd s = .next t ∧
      t.bus = { s.bus with turn := 7, inStep := true, restart := false } ∧
      HostButEvents s t [.restart] ∧ t.engine = s.engine ∧ t.request = s.request ∧
      t.control = s.control ∧ t.pending = s.pending) ∧
    (s.bus.locked = false → exec .restartEpisodeEnd s = .next s)

/-! ### Applications (R29 to R51) -/

/-- APPLICATION to a current replica (R30, R49, R50, R15, R18, R20): the head entry leaves the queue; the
tables are those that the steps leave, the frees of step 1, the record's effect unless the commit is
void, and the admission of steps 4 and 5; the counter takes its number, the digest follows the
tables, and a running history gains the pair, the oldest leaving at 16. The notice table (R22, R24):
the entry of each slot whose claim of this station the steps marked takes its cause and the commit's
number, every other entry stays, and NOTICE is set exactly where some entry was marked. -/
def Obligations.ApplicationReportsItsCommit : Prop :=
  ∀ (e : ApplyEntry) (rest : List ApplyEntry) (s : State),
    s.bus.applyQueue = e :: rest → s.engine.current = true →
    ¬ (e.record.body.kind = .join ∧ e.record.sender = s.me) →
    ¬ (e.record.body.kind.exclusive = true ∧ e.record.body.target = some s.me) →
    let w := workOf s.me e s.engine
    ∃ t, exec .application s = .next t ∧ t.bus = { s.bus with applyQueue := rest } ∧
    t.control = s.control ∧ t.pending = s.pending ∧ t.request.lrq = s.request.lrq ∧
    t.host.site = s.host.site ∧ t.host.mask = s.host.mask ∧ t.host.lastCmd = s.host.lastCmd ∧
    t.host.find = s.host.find ∧ t.engine.commit = e.commit ∧
    t.engine.pools = w.pools ∧ t.engine.slots = w.slots ∧
    t.engine.digest = digestOf t.engine.pools t.engine.slots ∧
    t.engine.horizon = s.engine.horizon ∧ t.engine.stale = s.engine.stale ∧
    t.engine.current = true ∧
    (s.engine.historyRunning = true → t.engine.history =
      (if 16 ≤ s.engine.history.length then s.engine.history.drop 1 else s.engine.history) ++
        [(e.commit, t.engine.digest)]) ∧
    (s.engine.historyRunning = false → t.engine.history = s.engine.history) ∧
    (∀ (i : SlotNo) (cause : Cause), w.marks[i] = some cause →
      t.engine.notices[i] = some ⟨cause, e.commit⟩ ∧ t.host.flag .notice = true) ∧
    (∀ i : SlotNo, w.marks[i] = none → t.engine.notices[i] = s.engine.notices[i]) ∧
    ((∀ i : SlotNo, w.marks[i] = none) → t.host.flag .notice = s.host.flag .notice)

/-- The founding application (R46, R14, R18, R24, R131): empty tables, the history (1, empty-table
digest), counter 1, no notice marked, not stale, current. A SNAP-HEAD at its target that is not void
(R132): the same tables, history and notices empty, the history not running, the counter its number,
not stale, current, the horizon 0. APPLICATION to a replica that is not current (R29, Table 9): an
entry that neither founds nor is a SNAP-HEAD at its target changes
nothing of the replica and posts nothing; it still leaves the queue. -/
def Obligations.ReplicaBecomesCurrentByFoundingOrSnapshot : Prop :=
  (∀ (e : ApplyEntry) (rest : List ApplyEntry) (code : BitVec 16) (s : State),
     s.bus.applyQueue = e :: rest → e.record = ⟨s.me, .join code⟩ → e.freezeAfter = false →
     ∃ t, exec .application s = .next t ∧ t.bus = { s.bus with applyQueue := rest } ∧
     t.control = s.control ∧ t.host = s.host ∧
     (∀ p : PoolNo, t.engine.pools[p] = ⟨0#16, 0#16, 0, false⟩) ∧
     (∀ i : SlotNo, t.engine.slots[i] = none) ∧ (∀ i : SlotNo, t.engine.notices[i] = none) ∧
     t.engine.digest = emptyDigest ∧ t.engine.history = [(1#32, emptyDigest)] ∧
     t.engine.commit = 1#32 ∧ t.engine.stale = false ∧ t.engine.current = true ∧
     t.engine.horizon = 64 ∧ t.engine.auditRecord = s.engine.auditRecord) ∧
  (∀ (e : ApplyEntry) (rest : List ApplyEntry) (number : CommitNo) (roster : Roster)
     (list : List StationNo) (s : State),
     s.bus.applyQueue = e :: rest → e.record.body = .snapHead s.me number roster list →
     e.isVoid = false →
     ∃ t, exec .application s = .next t ∧ t.bus = { s.bus with applyQueue := rest } ∧
     t.control = s.control ∧
     (∀ p : PoolNo, t.engine.pools[p] = ⟨0#16, 0#16, 0, false⟩) ∧
     (∀ i : SlotNo, t.engine.slots[i] = none) ∧ (∀ i : SlotNo, t.engine.notices[i] = none) ∧
     t.engine.digest = emptyDigest ∧ t.engine.history = [] ∧ t.engine.historyRunning = false ∧
     t.engine.commit = e.commit ∧ t.engine.stale = false ∧ t.engine.current = true ∧
     t.engine.horizon = 0) ∧
  ∀ (e : ApplyEntry) (rest : List ApplyEntry) (s : State),
    s.bus.applyQueue = e :: rest → s.engine.current = false →
    ¬ (e.record.body.kind = .join ∧ e.record.sender = s.me ∧ e.freezeAfter = false) →
    ¬ (e.record.body.kind = .snapHead ∧ e.record.body.target = some s.me ∧ e.isVoid = false) →
    ∃ t, exec .application s = .next t ∧ t.bus = { s.bus with applyQueue := rest } ∧
    t.engine = s.engine ∧ t.control = s.control ∧ t.host = s.host ∧
    t.request.completions = s.request.completions ∧ t.request.outcomes = s.request.outcomes

/-- A CLAIM (R38): the first condition that holds, in the order of the table, decides it. The slot it
takes (R9): the lowest-numbered FREE slot, and none where some claim of the replica already carries
its number as its stamp. What it creates there (R39): HELD with its number as stamp and held-stamp,
granted rises by its units and the pool is touched; or WAITING with its number as stamp and no
held-stamp, the waiting count rises by one and the pool is not touched. Other slots and pools stay;
every other outcome changes nothing and names no slot. -/
def Obligations.ClaimIsDecidedInOrder : Prop :=
  (∀ (now : CommitNo) (k : StationNo) (p : PoolNo) (u : BitVec 16) (cls : Fin 4) (wait : Bool)
     (tag : Byte) (w : Work),
     let free := w.pools[p].capacity.toNat - w.pools[p].granted.toNat
     let blocked := ∃ (i : SlotNo) (c : Claim), w.slots[i] = some c ∧ c.pool = p ∧
       c.state = .waiting ∧ cls ≤ c.cls
     let v := (w.claim now k p u cls wait tag).1
     let d := (w.claim now k p u cls wait tag).2;
     w.pools[p].granted.toNat ≤ w.pools[p].capacity.toNat →
     (w.pools[p].capacity.toNat < u.toNat → d.outcome = .tooLarge) ∧
     (u.toNat ≤ w.pools[p].capacity.toNat → 16 ≤ holdingCount w.slots k → d.outcome = .quota) ∧
     (u.toNat ≤ w.pools[p].capacity.toNat → holdingCount w.slots k < 16 →
       (availableSlot w.slots now = none → d.outcome = .full) ∧
       (availableSlot w.slots now ≠ none →
         (u.toNat ≤ free ∧ ¬ blocked → d.outcome = .held) ∧
         (¬ (u.toNat ≤ free ∧ ¬ blocked) → wait = true → d.outcome = .waiting) ∧
         (¬ (u.toNat ≤ free ∧ ¬ blocked) → wait = false → d.outcome = .busy))) ∧
     (d.outcome = .held ∨ d.outcome = .waiting → ∃ i : SlotNo,
       availableSlot w.slots now = some i ∧ d.slot = some i ∧
       v.slots[i] = some (if d.outcome = .held
         then ⟨.held, k, p, u, cls, tag, now, some now, false⟩
         else ⟨.waiting, k, p, u, cls, tag, now, none, false⟩) ∧
       (∀ j : SlotNo, j ≠ i → v.slots[j] = w.slots[j]) ∧
       v.pools[p] = (if d.outcome = .held
         then { w.pools[p] with granted := w.pools[p].granted + u }
         else { w.pools[p] with waiting := w.pools[p].waiting + 1 }) ∧
       (∀ q : PoolNo, q ≠ p → v.pools[q] = w.pools[q]) ∧
       (∀ q : PoolNo, v.touched[q] = (w.touched[q] || decide (q = p ∧ d.outcome = .held))) ∧
       v.marks = w.marks) ∧
     (d.outcome ≠ .held → d.outcome ≠ .waiting → v = w ∧ d.slot = none)) ∧
  ∀ (slots : Vector (Option Claim) 64) (n : CommitNo),
    ((∃ (i : SlotNo) (c : Claim), slots[i] = some c ∧ c.stamp = n) →
      availableSlot slots n = none) ∧
    (¬ (∃ (i : SlotNo) (c : Claim), slots[i] = some c ∧ c.stamp = n) →
      ∀ i : SlotNo, availableSlot slots n = some i ↔
        slots[i] = none ∧ ∀ j : SlotNo, j < i → slots[j] ≠ none)

/-- A SETCAP (R42 to R44), on tables whose pool records agree with their claims. The pool has the new
capacity, granted within it, and no claim that exceeds it. A waiter that exceeds it is ejected, the
others stay. Victims (R43) are taken class lowest first, then held-stamp newest first, then slot
highest first, while granted exceeds the capacity: a HELD claim is a victim exactly when it and the
HELD claims that do not stand ahead of it together exceed the capacity. A victim larger than the
capacity is ejected, any other is WAITING with its bumped flag set and its held-stamp kept. The
completion counts the bumped and the ejected (R44); the slots of this station's own are marked (R22);
all other claims, pools and marks stay. -/
def Obligations.SetcapShedsUntilGrantedFits : Prop :=
  (∀ (now : CommitNo) (x y : SlotNo × Claim), victimAhead now x y = true ↔
    x.2.cls < y.2.cls ∨ x.2.cls = y.2.cls ∧
      ((now - heldStampField x.2).toNat < (now - heldStampField y.2).toNat ∨
        now - heldStampField x.2 = now - heldStampField y.2 ∧ y.1 < x.1)) ∧
  ∀ (me : StationNo) (now : CommitNo) (p : PoolNo) (capacity : BitVec 16) (w : Work),
    PoolsAgree w.pools w.slots →
    let v := (w.setcap me now p capacity).1
    let behind (j : SlotNo) (c : Claim) : Nat :=
      (((claimsOf w.slots p .held).filter (fun x => !victimAhead now x (j, c))).map
        (fun x => x.2.units.toNat)).sum
    v.pools[p].capacity = capacity ∧ v.pools[p].granted.toNat ≤ capacity.toNat ∧
    (∀ q : PoolNo, v.touched[q] = (w.touched[q] || decide (q = p))) ∧
    (∀ q : PoolNo, q ≠ p → v.pools[q] = w.pools[q]) ∧ v.pools[p].due = w.pools[p].due ∧
    (∀ (i : SlotNo) (c : Claim), v.slots[i] = some c → c.pool = p →
      c.units.toNat ≤ capacity.toNat) ∧
    (∀ i : SlotNo, w.slots[i] = none → v.slots[i] = none ∧ v.marks[i] = w.marks[i]) ∧
    (∀ (i : SlotNo) (c : Claim), w.slots[i] = some c →
      (c.pool ≠ p ∨ c.state = .waiting ∧ c.units.toNat ≤ capacity.toNat ∨
        c.state = .held ∧ behind i c ≤ capacity.toNat →
        v.slots[i] = some c ∧ v.marks[i] = w.marks[i]) ∧
      (c.pool = p → capacity.toNat < c.units.toNat → v.slots[i] = none ∧
        v.marks[i] = if c.holder = me then some .ejected else w.marks[i]) ∧
      (c.pool = p → c.state = .held → capacity.toNat < behind i c →
        c.units.toNat ≤ capacity.toNat →
        v.slots[i] = some { c with state := .waiting, bumped := true } ∧
        v.marks[i] = if c.holder = me then some .bumped else w.marks[i])) ∧
    (w.setcap me now p capacity).2 = ⟨.capacitySet, none, .counts
      (countOver 64 fun i => w.slots[i].any (fun c => c.pool == p && c.state == .held) &&
        v.slots[i].any (fun c => c.state == .waiting))
      (countOver 64 fun i => w.slots[i].any (fun c => c.pool == p) && v.slots[i].isNone)⟩

/-- The wait line (R13): it holds each WAITING claim of the pool once, and nothing else, ordered by class
highest first, then stamp age oldest first, then slot lowest first. An admission pass (R35) admits a
front part of the line: each is HELD with held-stamp the commit applied, its units join granted, it
leaves the waiting count, and its own station marks it ADMITTED; the rest of the line, other claims,
other pools and the capacity stay; it ends with the line empty or with a head that needs more than
the pool's free units. Steps 4 and 5: under freeze-after the touched pools are admission-due and
nothing else changes (R36); else the touched pools receive a pass, and where the freeze has ended
the pools admission-due too, and no flag stands then (R37). -/
def Obligations.AdmissionPassFollowsTheWaitLine : Prop :=
  (∀ (now : CommitNo) (slots : Vector (Option Claim) 64) (p : PoolNo),
     (∀ (i : SlotNo) (c : Claim), (i, c) ∈ waitLine now slots p ↔
       slots[i] = some c ∧ c.pool = p ∧ c.state = .waiting) ∧
     (waitLine now slots p).Nodup ∧
     (waitLine now slots p).Pairwise (fun x y =>
       y.2.cls < x.2.cls ∨ x.2.cls = y.2.cls ∧
         ((now - y.2.stamp).toNat < (now - x.2.stamp).toNat ∨
           now - x.2.stamp = now - y.2.stamp ∧ x.1 < y.1))) ∧
  (∀ (me : StationNo) (now : CommitNo) (p : PoolNo) (w : Work),
    let v := w.pass me now p 64
    let line := waitLine now w.slots p;
    v.pools[p].capacity = w.pools[p].capacity ∧ v.pools[p].due = w.pools[p].due ∧
    v.touched = w.touched ∧ (∀ q : PoolNo, q ≠ p → v.pools[q] = w.pools[q]) ∧
    (∀ i : SlotNo, w.slots[i] = none → v.slots[i] = none ∧ v.marks[i] = w.marks[i]) ∧
    (∀ (i : SlotNo) (c : Claim), w.slots[i] = some c → c.pool ≠ p ∨ c.state = .held →
      v.slots[i] = some c ∧ v.marks[i] = w.marks[i]) ∧
    (∀ i c rest, waitLine now v.slots p = (i, c) :: rest →
      v.pools[p].capacity.toNat < v.pools[p].granted.toNat + c.units.toNat) ∧
    ∃ n ≤ line.length,
      (∀ x ∈ line.take n,
        v.slots[x.1] = some { x.2 with state := .held, heldStamp := some now } ∧
        v.marks[x.1] = if x.2.holder = me then some .admitted else w.marks[x.1]) ∧
      (∀ x ∈ line.drop n, v.slots[x.1] = some x.2 ∧ v.marks[x.1] = w.marks[x.1]) ∧
      v.pools[p].granted.toNat =
        w.pools[p].granted.toNat + ((line.take n).map (fun x => x.2.units.toNat)).sum ∧
      v.pools[p].waiting = w.pools[p].waiting - n ∧
      (0 < n → v.pools[p].granted.toNat ≤ v.pools[p].capacity.toNat)) ∧
  (∀ (me : StationNo) (now : CommitNo) (w : Work),
    let v := w.admission me now true false;
    v.slots = w.slots ∧ v.marks = w.marks ∧ ∀ p : PoolNo, v.pools[p] =
      if w.touched[p] then { w.pools[p] with due := true } else w.pools[p]) ∧
  ∀ (me : StationNo) (now : CommitNo) (ended : Bool) (w : Work),
    let v := w.admission me now false ended;
    (∀ p : PoolNo, w.touched[p] = true ∨ ended = true ∧ w.pools[p].due = true →
      ∀ i c rest, waitLine now v.slots p = (i, c) :: rest →
        v.pools[p].capacity.toNat < v.pools[p].granted.toNat + c.units.toNat) ∧
    (∀ p : PoolNo, v.pools[p].due = (!ended && w.pools[p].due)) ∧
    (∀ p : PoolNo, w.touched[p] = false → (ended = true → w.pools[p].due = false) →
      v.pools[p] = w.pools[p] ∧ ∀ (i : SlotNo) (c : Claim), w.slots[i] = some c → c.pool = p →
        v.slots[i] = some c)

/-- A RELEASE and a TRIM as they change the tables (R40, R41, R3): the slot is FREE, or holds the lower
units, granted falls by what a HELD claim gives up, a WAITING claim's pool loses one from the waiting
count at a RELEASE and nothing at a TRIM, the pool is touched, and other slots, other pools and the
marks stay; units that do not fall are RANGE; a mismatch of holder or tag is STALE and changes
nothing. Step 1 (R32): the claims below the horizon whose holder is gone become FREE, the pools
installed lose their units and waiters, and their pools are touched; nothing else changes. A void
entry (R33) has step 1 and the admission alone, and decides nothing. -/
def Obligations.ReleaseAndTrimChangeTheirSlot : Prop :=
  (∀ (k : StationNo) (i : SlotNo) (tag : Byte) (w : Work),
    (∀ c, w.slots[i] = some c → c.holder = k → c.tag = tag →
      (let v := (w.release k i tag).1;
        (w.release k i tag).2 = ⟨.released, some i, .none⟩ ∧ v.slots[i] = none ∧
        (∀ j : SlotNo, j ≠ i → v.slots[j] = w.slots[j]) ∧ v.marks = w.marks ∧
        (∀ q : PoolNo, v.touched[q] = (w.touched[q] || decide (q = c.pool))) ∧
        (∀ q : PoolNo, q ≠ c.pool → v.pools[q] = w.pools[q]) ∧
        (c.state = .held → v.pools[c.pool] =
          { w.pools[c.pool] with granted := w.pools[c.pool].granted - c.units }) ∧
        (c.state = .waiting → v.pools[c.pool] =
          { w.pools[c.pool] with waiting := w.pools[c.pool].waiting - 1 })) ∧
      (∀ n : BitVec 16, c.units.toNat ≤ n.toNat → w.trim k i tag n = (w, ⟨.range, some i, .none⟩)) ∧
      (∀ n : BitVec 16, n.toNat < c.units.toNat →
        let v := (w.trim k i tag n).1;
        (w.trim k i tag n).2 = ⟨.trimmed, some i, .none⟩ ∧
        v.slots[i] = some { c with units := n } ∧
        (∀ j : SlotNo, j ≠ i → v.slots[j] = w.slots[j]) ∧ v.marks = w.marks ∧
        (∀ q : PoolNo, v.touched[q] = (w.touched[q] || decide (q = c.pool))) ∧
        (∀ q : PoolNo, q ≠ c.pool → v.pools[q] = w.pools[q]) ∧
        (c.state = .held → v.pools[c.pool] =
          { w.pools[c.pool] with granted := w.pools[c.pool].granted - (c.units - n) }) ∧
        (c.state = .waiting → v.pools[c.pool] = w.pools[c.pool]))) ∧
    ((∀ c, w.slots[i] = some c → c.holder ≠ k ∨ c.tag ≠ tag) →
      w.release k i tag = (w, ⟨.stale, some i, .none⟩) ∧
      ∀ n, w.trim k i tag n = (w, ⟨.stale, some i, .none⟩))) ∧
  (∀ (gone : StationNo → Bool) (horizon : Nat) (installed : Vector Bool 8) (w : Work),
    let v := w.dropStep gone horizon installed
    let freed (st : ClaimState) (p : PoolNo) : List (SlotNo × Claim) :=
      (claimsOf w.slots p st).filter (fun x => gone x.2.holder && decide (x.1.val < horizon));
    v.marks = w.marks ∧
    (∀ i : SlotNo, w.slots[i] = none → v.slots[i] = none) ∧
    (∀ (i : SlotNo) (c : Claim), w.slots[i] = some c →
      v.slots[i] = if gone c.holder = true ∧ i.val < horizon then none else some c) ∧
    (∀ p : PoolNo, installed[p] = false → v.pools[p] = w.pools[p]) ∧
    (∀ p : PoolNo, installed[p] = true → v.pools[p] = { w.pools[p] with
      granted := w.pools[p].granted -
        BitVec.ofNat 16 (((freed .held p).map (fun x => x.2.units.toNat)).sum)
      waiting := w.pools[p].waiting - (freed .waiting p).length }) ∧
    (∀ p : PoolNo, v.touched[p] = true ↔ freed .held p ≠ [] ∨ freed .waiting p ≠ [])) ∧
  ∀ (me : StationNo) (e : ApplyEntry) (g : Engine),
    (∀ k : StationNo, goneAt e k = true ↔
      k ∈ e.drop ∨ e.record.body = .leave ∧ k = e.record.sender) ∧
    (e.isVoid = true → (g.applySteps me e).decision = none ∧
      workOf me e g = (g.begin.dropStep (goneAt e) g.horizon g.installed).admission me e.commit
        e.freezeAfter e.freezeEnded)

/-- An AUDIT at a current replica (R45): a history that holds another digest for N writes the audit
record and sets DISAGREE, any other lookup does neither, and neither table changes where the commit
drops no one and no pass is owed. -/
def Obligations.AuditReportsDisagreement : Prop :=
  ∀ (e : ApplyEntry) (rest : List ApplyEntry) (n : CommitNo) (d : Sys2Proof.Digest) (s : State),
    s.bus.applyQueue = e :: rest → s.engine.current = true → e.record.body = .audit n d →
    e.isVoid = false → e.drop = [] → e.freezeEnded = false →
    ∃ t, exec .application s = .next t ∧
    t.engine.pools = s.engine.pools ∧ t.engine.slots = s.engine.slots ∧
    t.engine.notices = s.engine.notices ∧
    (∀ own, lookup s.engine.history n = some own → own ≠ d →
      t.engine.auditRecord = some ⟨e.record.sender, n, own, d⟩ ∧
      t.host.flag .disagree = true) ∧
    (lookup s.engine.history n = none ∨ lookup s.engine.history n = some d →
      t.engine.auditRecord = s.engine.auditRecord ∧
      t.host.flag .disagree = s.host.flag .disagree)

/-- The completion of an applied own ordinary record (R51, R152, R144): the head of the outcome list
leaves it, and its completion is posted from the reserved place with the entry's commit number. The
outcome and slot are those of the record's decision on the tables after step 1; the extra is a
CLAIM's state at the end of the application, a SETCAP's two counts, an AUDIT's distance, and none
for the rest. -/
def Obligations.AppliedOwnRecordIsCompleted : Prop :=
  ∀ (e : ApplyEntry) (rest : List ApplyEntry) (o : OutcomeEntry) (os : List OutcomeEntry)
    (own : Own) (s : State),
    s.bus.applyQueue = e :: rest → s.engine.current = true → e.record.sender = s.me →
    e.record.body.kind.ordinary = true → e.isVoid = false →
    s.request.outcomes = o :: os → o.commit = e.commit → s.request.own = some own →
    let w := s.engine.begin.dropStep (goneAt e) s.engine.horizon s.engine.installed
    ∃ t, exec .application s = .next t ∧ t.request.outcomes = os ∧
    t.request.reserved = s.request.reserved - 1 ∧ t.host.flag .completion = true ∧
    t.request.own = some own ∧ t.request.lrq = s.request.lrq ∧
    ∃ c : Completion, t.request.completions = s.request.completions ++ [c] ∧ c.ref = o.ref ∧
      c.kind = o.kind ∧ c.commit = some e.commit ∧
      (∀ p u cls wait tag, e.record.body = .claim p u cls wait tag →
        let d := (w.claim e.commit s.me p u cls wait tag).2;
        c.outcome = d.outcome ∧ c.slot = d.slot ∧
        (d.outcome ≠ .held → d.outcome ≠ .waiting → c.extra = .none) ∧
        ∀ i, d.outcome = .held ∨ d.outcome = .waiting → d.slot = some i →
          ∃ x, t.engine.slots[i] = some x ∧ c.extra = .claimState x.state) ∧
      (∀ i tag, e.record.body = .release i tag → c.slot = some i ∧ c.extra = .none ∧
        c.outcome = (w.release s.me i tag).2.outcome) ∧
      (∀ i tag u, e.record.body = .trim i tag u → c.slot = some i ∧ c.extra = .none ∧
        c.outcome = (w.trim s.me i tag u).2.outcome) ∧
      (∀ p u, e.record.body = .setcap p u → c.slot = none ∧ c.outcome = .capacitySet ∧
        c.extra = (w.setcap s.me e.commit p u).2.extra) ∧
      (∀ n d, e.record.body = .audit n d →
        c.outcome = .audited ∧ c.slot = none ∧ c.extra = .distance (e.commit - n))

/-- SNAP-CLAIM, SNAP-POOL and SNAP-END as they are applied at their target, where the commit drops no
one and no pass is owed (R133, R134, R136). The claim: it stands in its slot, the slots from the
horizon up to it are FREE, the horizon is past it. The pool: its figures stand. The end: the horizon
is 64 and the digest history runs, this commit's pair its next. The own record, the entry AUDIT
among them, stays as it is at this application, and the contents an AUDIT would win with after it
are this commit's number and the digest the application leaves (R66, R138). -/
def Obligations.SnapshotRecordsInstallAtTheirTarget : Prop :=
  (∀ (e : ApplyEntry) (rest : List ApplyEntry) (s : State),
    s.bus.applyQueue = e :: rest → s.engine.current = true → e.isVoid = false → e.drop = [] →
    e.freezeEnded = false →
    (∀ slot c, e.record.body = .snapClaim s.me slot c → ∃ t, exec .application s = .next t ∧
      t.engine.horizon = slot.val + 1 ∧ t.engine.pools = s.engine.pools ∧
      ∀ i : SlotNo, t.engine.slots[i] = if i = slot then some c
        else if s.engine.horizon ≤ i.val ∧ i.val < slot.val then none else s.engine.slots[i]) ∧
    (∀ p f, e.record.body = .snapPool s.me p f → ∃ t, exec .application s = .next t ∧
      t.engine.horizon = s.engine.horizon ∧ t.engine.slots = s.engine.slots ∧
      t.engine.installed[p] = true ∧
      ∀ q : PoolNo, t.engine.pools[q] = if q = p then f else s.engine.pools[q]) ∧
    (∀ count, e.record.body = .snapEnd s.me count → ∃ t, exec .application s = .next t ∧
      t.engine.horizon = 64 ∧ t.engine.historyRunning = true ∧ t.engine.pools = s.engine.pools ∧
      t.engine.slots = s.engine.slots ∧
      (s.engine.history = [] → t.engine.history = [(e.commit, t.engine.digest)]))) ∧
  ∀ (e : ApplyEntry) (rest : List ApplyEntry) (count : Nat) (s : State),
    s.bus.applyQueue = e :: rest → s.engine.current = true → e.isVoid = false →
    e.record.body = .snapEnd s.me count → s.request.own ≠ none →
    ∃ t, exec .application s = .next t ∧ t.request = s.request ∧
    t.bus = { s.bus with applyQueue := rest } ∧
    t.engine.commit = e.commit ∧ t.engine.historyRunning = true ∧
    t.engine.digest = digestOf t.engine.pools t.engine.slots ∧
    t.winBody (.ordinary ⟨0xFF#8, .audit⟩ true) = .audit e.commit t.engine.digest

/-! ### Builds, views and FIND (R52, R54, R126, R162, R164, R166) -/

/-- SNAPSHOT_BUILD (R125, R126): where a build is asked for, the record of the cursor's phase for its
target becomes the chosen own record; a CLAIMS build that finds no claim moves to POOLS with pool 0;
where none is asked for, nothing changes. The choice of the own record (R147): while there is one, no
other is chosen; JOINING a JOIN, LEAVING a LEAVE; ACTIVE with no freeze in force, in this order, a
held record, a due entry AUDIT, the head of the LRQ, the latter two only where a place is free, which
they reserve; in every other case none. -/
def Obligations.BuildFollowsTheCursor : Prop :=
  (∀ s : State,
    (s.buildWanted = false → exec .snapshotBuild s = .next s) ∧
    (∀ target, s.buildWanted = true → s.request.cursor.target = some target →
      (s.request.cursor.phase = .pools → s.request.cursor.nextPool < 8) →
      ∃ t body, exec .snapshotBuild s = .next t ∧
      t.request.own = some (Own.fresh (.snapshot body)) ∧
      t.request = { s.request with own := t.request.own, cursor := t.request.cursor } ∧
      t.bus = s.bus ∧ t.engine = s.engine ∧ t.control = s.control ∧ t.host = s.host ∧
      t.pending = s.pending ∧
      (s.request.cursor.phase = .head → t.request.cursor = s.request.cursor ∧
        body = .snapHead target (s.engine.commit + 1#32) s.bus.roster s.bus.syncList) ∧
      (∀ i c, s.request.cursor.phase = .claims →
        nextClaim s.engine.slots s.request.cursor.nextSlot = some (i, c) →
        t.request.cursor = s.request.cursor ∧ body = .snapClaim target i c) ∧
      (s.request.cursor.phase = .claims →
        nextClaim s.engine.slots s.request.cursor.nextSlot = none →
        t.request.cursor = { s.request.cursor with phase := .pools, nextPool := 0 } ∧
        body = .snapPool target 0 s.engine.pools[(0 : PoolNo)]) ∧
      (∀ p : PoolNo, s.request.cursor.phase = .pools → s.request.cursor.nextPool = p.val →
        t.request.cursor = s.request.cursor ∧ body = .snapPool target p s.engine.pools[p]) ∧
      (s.request.cursor.phase = .finish → t.request.cursor = s.request.cursor ∧
        body = .snapEnd target s.request.cursor.count))) ∧
  ∀ s : State,
    (s.request.own ≠ none → s.choose = s) ∧
    (s.request.own = none →
      (s.control.station = .joining →
        s.choose = { s with request := { s.request with own := some (Own.fresh .join) } }) ∧
      (s.control.station = .leaving →
        s.choose = { s with request := { s.request with own := some (Own.fresh .leave) } }) ∧
      (s.control.station = .config ∨ s.control.station = .outside ∨
        s.control.station = .syncing ∨ s.control.station = .active ∧ s.freeze = true →
        s.choose = s) ∧
      (s.control.station = .active → s.freeze = false →
        (∀ h, s.request.held = some h → s.choose = { s with request := { s.request with
          own := some { h with cond := .chosen }, held := none } }) ∧
        (s.request.held = none →
          (s.request.freePlaces = 0 ∨ s.request.auditDue = false ∧ s.request.lrq = [] →
            s.choose = s) ∧
          (0 < s.request.freePlaces → s.request.auditDue = true →
            s.choose = { s with request := { s.request with
              own := some (Own.fresh (.ordinary ⟨0xFF#8, .audit⟩ true)), auditDue := false
              reserved := s.request.reserved + 1 } }) ∧
          (∀ r rs, 0 < s.request.freePlaces → s.request.auditDue = false →
            s.request.lrq = r :: rs → s.choose = { s with request := { s.request with
              own := some (Own.fresh (.ordinary r false))
              reserved := s.request.reserved + 1 } }))))

/-- VIEW_COPY (R52, R54, R162): when its turn has come the pending item is copied whole with its
code and the engine commit counter, and the selection is no longer pending; before its turn, or with
nothing pending, nothing changes. -/
def Obligations.ViewCopyWritesTheBufferWhole : Prop :=
  ∀ s : State,
    (∀ sel, s.engine.viewPending = some sel → s.bus.applyQueue = [] → s.buildWanted = false →
      ∃ t, exec .viewCopy s = .next t ∧
      t = { s with engine := { s.engine with
        viewPending := none, viewBuffer := t.engine.viewBuffer } } ∧
      t.engine.viewBuffer.take 5 = [sel] ++ bytes32 s.engine.commit ∧
      (∀ i : SlotNo, sel.toNat = i.val →
        t.engine.viewBuffer.drop 5 = slotItem s.engine.slots[i]) ∧
      (∀ p : PoolNo, sel.toNat = 64 + p.val →
        t.engine.viewBuffer.drop 5 = poolItem s.engine.pools[p]) ∧
      (sel = 0x48#8 →
        t.engine.viewBuffer.drop 5 = rosterBytes s.bus.roster ++ bytes32 s.bus.joinCommit) ∧
      (sel = 0x49#8 → t.engine.viewBuffer.drop 5 =
        syncListItem s.bus.syncList (donorOf s.bus.roster s.bus.syncList))) ∧
    (s.engine.viewPending = none ∨ s.bus.applyQueue ≠ [] ∨ s.buildWanted = true →
      exec .viewCopy s = .next s)

/-- FIND_STEP (R52, R166): at its turn the step examines the next slot, appends it if it matches, and
ends the scan COMPLETE after TO, FULL at the eighth match before it, else goes on; before its turn
nothing changes. What matches (R164): a FREE slot where FREE is enabled and holder and pool stand for
any; a claim where its state and class are enabled and its holder and pool are those named or any. A
commit whose entry arrives after the scan's first step ends it YIELDED, with the matches so far; a
scan before its first step goes on (R53). -/
def Obligations.FindStepExaminesOneSlot : Prop :=
  (∀ (scan : Scan) (i : SlotNo) (s : State), s.engine.scan = some scan → scan.next = i.val →
    let found := if scan.filter.matchesSlot s.engine.slots[i] then scan.found ++ [i] else scan.found
    let commit := scan.commit.getD s.engine.commit;
    (s.findTurn = false → exec .findStep s = .next s) ∧
    (s.findTurn = true → ∃ t, exec .findStep s = .next t ∧ t.bus = s.bus ∧
      t.request = s.request ∧ t.control = s.control ∧ t.pending = s.pending ∧
      t.engine = { s.engine with scan := t.engine.scan, findResult := t.engine.findResult } ∧
      (min scan.filter.last.toNat 63 ≤ i.val →
        t.engine.scan = none ∧
        t.engine.findResult = ⟨.complete, byteOfNat (i.val + 1), found, commit⟩ ∧
        HostButEvents s t [.findDone]) ∧
      (i.val < min scan.filter.last.toNat 63 → 8 ≤ found.length →
        t.engine.scan = none ∧
        t.engine.findResult = ⟨.full, byteOfNat (i.val + 1), found, commit⟩ ∧
        HostButEvents s t [.findDone]) ∧
      (i.val < min scan.filter.last.toNat 63 → found.length < 8 →
        t.engine.scan = some ⟨scan.filter, i.val + 1, found, some commit⟩ ∧
        t.engine.findResult = s.engine.findResult ∧ t.host = s.host))) ∧
  (∀ f : FindFilter,
    (f.matchesSlot none = true ↔ f.masks.getLsbD 0 = true ∧ 8 ≤ f.holder.toNat ∧
      8 ≤ f.pool.toNat) ∧
    ∀ c : Claim, f.matchesSlot (some c) = true ↔
      f.masks.getLsbD (if c.state = .held then 1 else 2) = true ∧
      f.masks.getLsbD (4 + c.cls.val) = true ∧
      (8 ≤ f.holder.toNat ∨ f.holder.toNat = c.holder.val) ∧
      (8 ≤ f.pool.toNat ∨ f.pool.toNat = c.pool.val)) ∧
  ∀ (ack : BitVec 8) (r : Record) (o : OpenRecord) (rest : List OpenRecord) (scan : Scan)
    (s : State),
    s.control.station = .active → s.control.phaseKept = false →
    s.bus.roster[s.me] = .active → s.bus.window = some (.ack r) → s.bus.openList = o :: rest →
    o.own = false → lineOf ack s.me = true → r.body.kind.ordinary = true →
    s.engine.scan = some scan →
    ∃ t, exec (.checkWindowClose ack false) s = .next t ∧
    (∀ n, scan.commit = some n → t.engine.scan = none ∧
      t.engine.findResult = ⟨.yielded, byteOfNat scan.next, scan.found, n⟩ ∧
      t.host.flag .findDone = true) ∧
    (scan.commit = none → t.engine.scan = some scan ∧
      t.engine.findResult = s.engine.findResult ∧
      t.host.flag .findDone = s.host.flag .findDone)

/-! ### Encodings and digests (R17, R93, R95, R181) -/

/-- A record read from the bytes of a well-formed record is that record (R95, R181, R182). -/
def Obligations.RecordsReadBackWhole : Prop :=
  ∀ r : Record, r.formed = true → parseRecord r.bytes = some r

/-- The form checks accept only the bytes of a well-formed record, each from one record (R95). That
they refuse a sender field of 8 to 15, which R95 does not count among them, is the model's choice
(log entry 13, DESIGN CHOICE). -/
def Obligations.OnlyEncodingsPassTheFormChecks : Prop :=
  ∀ (bytes : List Byte) (r : Record), parseRecord bytes = some r →
    r.formed = true ∧ r.bytes = bytes

/-! ### What every step keeps -/

/-- Reset has every property the invariants below say steps keep. -/
def Obligations.ResetHasTheInvariants : Prop :=
  State.reset.reservedRead0 ∧ State.reset.digestFollows ∧ State.reset.placesInStep ∧
  State.reset.listsBounded ∧ State.reset.recordsFormed ∧ State.reset.claimsFormed ∧
  State.reset.outsiderHoldsNothing ∧ State.reset.takesPartInStep ∧ State.reset.standingInOrder ∧
  State.reset.spiInOrder ∧ State.reset.poolsInStep ∧ State.reset.choose = State.reset

/-- The digest is the function of the tables after every step (R14, R15); positions of EVENTS, EVMASK
and FIND_MASKS that carry nothing read 0 after every step (R172, R174, R180); SDO carries a byte
exactly while CS is asserted, and a frame stands only then, after every step (R179, R186). -/
def Obligations.StepKeepsDigestAndReservedPositions : Prop :=
  (∀ s t : State, s.digestFollows → step s = .next t → t.digestFollows) ∧
  (∀ s t : State, s.reservedRead0 → step s = .next t → t.reservedRead0) ∧
  ∀ s t : State, s.spiInOrder → step s = .next t → t.spiInOrder

/-- Places and completions stay in step with the records they are reserved for (R144, R146), so the
outcome list (R152) and the completion queue hold at most 8 each; and after every step nothing is
left to choose: where the own record is none, no candidate's conditions hold (R147). -/
def Obligations.StepKeepsPlaces : Prop :=
  (∀ s t : State, s.placesInStep → step s = .next t → t.placesInStep ∧
    t.request.outcomes.length ≤ 8 ∧ t.request.completions.length ≤ 8) ∧
  ∀ s t : State, s.choose = s → step s = .next t → t.choose = t

/-- The lists keep their bounds: open list, LRQ, digest history, request bytes, horizon, scan and FIND
result (R18, R68, R131, R141, R143, R166), and the apply queue with the records that can still join
it (R25, R26), so that it holds at most 8, where the membership invariants hold that every step
keeps. The sync list holds each SYNCING station of the roster once, at most 7, and some station is
ACTIVE while it is not empty (R104 to R106), where a SNAP-HEAD acknowledged carries a roster and list
that belong together, as R91 has the donor send them. -/
def Obligations.StepKeepsBounds : Prop :=
  (∀ s t : State, s.listsBounded → s.outsiderHoldsNothing → s.takesPartInStep →
    step s = .next t → t.listsBounded ∧ t.bus.applyQueue.length ≤ 8) ∧
  ∀ s t : State, s.standingInOrder →
    (∀ r target number roster list, s.bus.window = some (.ack r) →
      r.body = .snapHead target number roster list → StandingInOrder roster list) →
    step s = .next t → t.standingInOrder

/-- Claims have units and their held-stamp as R8 says, after every step from a state whose records
and claims are well formed (R5, R8, R95). -/
def Obligations.StepKeepsClaimsFormed : Prop :=
  ∀ s t : State, s.recordsFormed → s.claimsFormed → step s = .next t →
    t.recordsFormed ∧ t.claimsFormed

/-- Granted and waiting count follow the claim table through every step (R3): from tables whose pool
records agree with their claims, with every pool installed and the horizon at 64, every step leaves
such tables, unless it applies a SNAP-HEAD, SNAP-CLAIM or SNAP-POOL addressed to this station, which
receives the tables anew: an APPLICATION of such an entry, or a round in which the entry AUDIT wins and
the engine applies one before the win (log entry 26, DEDUCED). -/
def Obligations.ApplicationKeepsPoolsInStep : Prop :=
  ∀ s t : State, s.poolsInStep →
    (s.pending.head? = some .application → ∀ e, s.bus.applyQueue.head? = some e →
      e.record.body.target = some s.me → e.record.body.kind = .snapEnd) →
    (∀ req thr started, s.pending.head? = some (.arbitrationRound req thr started) →
      s.ownIsEntryAudit = true → s.snapEndWaits = true → ∀ e ∈ s.bus.applyQueue,
      e.record.body.target = some s.me → e.record.body.kind = .snapEnd) →
    step s = .next t → t.poolsInStep

/-- A station that is no member holds nothing of the group, and members and stations with a window, a
record in transfer or MRS asserted are LOCKED and in step, after every step (R25, R29, R57 to R59,
R80, R104, R117). Of the cursor and the tracker this takes in items to which R124 and R98 give no
value there (log entries 28 and 29, DESIGN CHOICE). -/
def Obligations.StepKeepsMembershipInOrder : Prop :=
  ∀ s t : State, s.outsiderHoldsNothing → s.takesPartInStep → step s = .next t →
    t.outsiderHoldsNothing ∧ t.takesPartInStep
end

