-- ==== Sys2Proof/Laws/State.lean ====
section
/-!
SUPPORT. One lemma per field for each small update of State: what the update leaves, and what it
writes.
-/
namespace Sys2Proof.Machine

/-! ### setEvent -/

@[simp] theorem State.setEvent_bus (e : Event) (s : State) :
    (s.setEvent e).bus = s.bus := rfl

@[simp] theorem State.setEvent_engine (e : Event) (s : State) :
    (s.setEvent e).engine = s.engine := rfl

@[simp] theorem State.setEvent_request (e : Event) (s : State) :
    (s.setEvent e).request = s.request := rfl

@[simp] theorem State.setEvent_control (e : Event) (s : State) :
    (s.setEvent e).control = s.control := rfl

@[simp] theorem State.setEvent_pending (e : Event) (s : State) :
    (s.setEvent e).pending = s.pending := rfl

@[simp] theorem State.setEvent_host_site (e : Event) (s : State) :
    (s.setEvent e).host.site = s.host.site := rfl

@[simp] theorem State.setEvent_host_mask (e : Event) (s : State) :
    (s.setEvent e).host.mask = s.host.mask := rfl

@[simp] theorem State.setEvent_host_lastCmd (e : Event) (s : State) :
    (s.setEvent e).host.lastCmd = s.host.lastCmd := rfl

@[simp] theorem State.setEvent_host_find (e : Event) (s : State) :
    (s.setEvent e).host.find = s.host.find := rfl

@[simp] theorem State.setEvent_host_selected (e : Event) (s : State) :
    (s.setEvent e).host.selected = s.host.selected := rfl

@[simp] theorem State.setEvent_host_frame (e : Event) (s : State) :
    (s.setEvent e).host.frame = s.host.frame := rfl

@[simp] theorem State.setEvent_host_sdo (e : Event) (s : State) :
    (s.setEvent e).host.sdo = s.host.sdo := rfl

@[simp] theorem State.setEvent_host_requestBytes (e : Event) (s : State) :
    (s.setEvent e).host.requestBytes = s.host.requestBytes := rfl

@[simp] theorem State.setEvent_host_compRead (e : Event) (s : State) :
    (s.setEvent e).host.compRead = s.host.compRead := rfl

@[simp] theorem State.setEvent_host_noticeRead (e : Event) (s : State) :
    (s.setEvent e).host.noticeRead = s.host.noticeRead := rfl

@[simp] theorem State.setEvent_host_viewRead (e : Event) (s : State) :
    (s.setEvent e).host.viewRead = s.host.viewRead := rfl

@[simp] theorem State.setEvent_host_findRead (e : Event) (s : State) :
    (s.setEvent e).host.findRead = s.host.findRead := rfl

@[simp] theorem State.setEvent_host_auditRead (e : Event) (s : State) :
    (s.setEvent e).host.auditRead = s.host.auditRead := rfl

@[simp] theorem State.setEvent_host_eventsLatch (e : Event) (s : State) :
    (s.setEvent e).host.eventsLatch = s.host.eventsLatch := rfl

@[simp] theorem State.setEvent_host_commitLatch (e : Event) (s : State) :
    (s.setEvent e).host.commitLatch = s.host.commitLatch := rfl

@[simp] theorem State.setEvent_host_events (e : Event) (s : State) :
    (s.setEvent e).host.events = s.host.events ||| (1#16 <<< e.position) := rfl

/-! ### clearOwn -/

@[simp] theorem State.clearOwn_bus (s : State) :
    (s.clearOwn).bus = s.bus := rfl

@[simp] theorem State.clearOwn_engine (s : State) :
    (s.clearOwn).engine = s.engine := rfl

@[simp] theorem State.clearOwn_control (s : State) :
    (s.clearOwn).control = s.control := rfl

@[simp] theorem State.clearOwn_host (s : State) :
    (s.clearOwn).host = s.host := rfl

@[simp] theorem State.clearOwn_pending (s : State) :
    (s.clearOwn).pending = s.pending := rfl

@[simp] theorem State.clearOwn_request_lrq (s : State) :
    (s.clearOwn).request.lrq = s.request.lrq := rfl

@[simp] theorem State.clearOwn_request_held (s : State) :
    (s.clearOwn).request.held = s.request.held := rfl

@[simp] theorem State.clearOwn_request_outcomes (s : State) :
    (s.clearOwn).request.outcomes = s.request.outcomes := rfl

@[simp] theorem State.clearOwn_request_completions (s : State) :
    (s.clearOwn).request.completions = s.request.completions := rfl

@[simp] theorem State.clearOwn_request_reserved (s : State) :
    (s.clearOwn).request.reserved = s.request.reserved := rfl

@[simp] theorem State.clearOwn_request_auditDue (s : State) :
    (s.clearOwn).request.auditDue = s.request.auditDue := rfl

@[simp] theorem State.clearOwn_request_cursor (s : State) :
    (s.clearOwn).request.cursor = s.request.cursor := rfl

@[simp] theorem State.clearOwn_request_own (s : State) :
    s.clearOwn.request.own = none := rfl

/-! ### setOwn -/

@[simp] theorem State.setOwn_bus (o : Own) (s : State) :
    (s.setOwn o).bus = s.bus := rfl

@[simp] theorem State.setOwn_engine (o : Own) (s : State) :
    (s.setOwn o).engine = s.engine := rfl

@[simp] theorem State.setOwn_control (o : Own) (s : State) :
    (s.setOwn o).control = s.control := rfl

@[simp] theorem State.setOwn_host (o : Own) (s : State) :
    (s.setOwn o).host = s.host := rfl

@[simp] theorem State.setOwn_pending (o : Own) (s : State) :
    (s.setOwn o).pending = s.pending := rfl

@[simp] theorem State.setOwn_request_lrq (o : Own) (s : State) :
    (s.setOwn o).request.lrq = s.request.lrq := rfl

@[simp] theorem State.setOwn_request_held (o : Own) (s : State) :
    (s.setOwn o).request.held = s.request.held := rfl

@[simp] theorem State.setOwn_request_outcomes (o : Own) (s : State) :
    (s.setOwn o).request.outcomes = s.request.outcomes := rfl

@[simp] theorem State.setOwn_request_completions (o : Own) (s : State) :
    (s.setOwn o).request.completions = s.request.completions := rfl

@[simp] theorem State.setOwn_request_reserved (o : Own) (s : State) :
    (s.setOwn o).request.reserved = s.request.reserved := rfl

@[simp] theorem State.setOwn_request_auditDue (o : Own) (s : State) :
    (s.setOwn o).request.auditDue = s.request.auditDue := rfl

@[simp] theorem State.setOwn_request_cursor (o : Own) (s : State) :
    (s.setOwn o).request.cursor = s.request.cursor := rfl

@[simp] theorem State.setOwn_request_own (o : Own) (s : State) :
    (s.setOwn o).request.own = some o := rfl

/-! ### releasePlace -/

@[simp] theorem State.releasePlace_bus (s : State) :
    (s.releasePlace).bus = s.bus := rfl

@[simp] theorem State.releasePlace_engine (s : State) :
    (s.releasePlace).engine = s.engine := rfl

@[simp] theorem State.releasePlace_control (s : State) :
    (s.releasePlace).control = s.control := rfl

@[simp] theorem State.releasePlace_host (s : State) :
    (s.releasePlace).host = s.host := rfl

@[simp] theorem State.releasePlace_pending (s : State) :
    (s.releasePlace).pending = s.pending := rfl

@[simp] theorem State.releasePlace_request_lrq (s : State) :
    (s.releasePlace).request.lrq = s.request.lrq := rfl

@[simp] theorem State.releasePlace_request_own (s : State) :
    (s.releasePlace).request.own = s.request.own := rfl

@[simp] theorem State.releasePlace_request_held (s : State) :
    (s.releasePlace).request.held = s.request.held := rfl

@[simp] theorem State.releasePlace_request_outcomes (s : State) :
    (s.releasePlace).request.outcomes = s.request.outcomes := rfl

@[simp] theorem State.releasePlace_request_completions (s : State) :
    (s.releasePlace).request.completions = s.request.completions := rfl

@[simp] theorem State.releasePlace_request_auditDue (s : State) :
    (s.releasePlace).request.auditDue = s.request.auditDue := rfl

@[simp] theorem State.releasePlace_request_cursor (s : State) :
    (s.releasePlace).request.cursor = s.request.cursor := rfl

@[simp] theorem State.releasePlace_request_reserved (s : State) :
    s.releasePlace.request.reserved = s.request.reserved - 1 := rfl

/-! ### post -/

@[simp] theorem State.post_bus (c : Completion) (s : State) :
    (s.post c).bus = s.bus := rfl

@[simp] theorem State.post_engine (c : Completion) (s : State) :
    (s.post c).engine = s.engine := rfl

@[simp] theorem State.post_control (c : Completion) (s : State) :
    (s.post c).control = s.control := rfl

@[simp] theorem State.post_pending (c : Completion) (s : State) :
    (s.post c).pending = s.pending := rfl

@[simp] theorem State.post_request_lrq (c : Completion) (s : State) :
    (s.post c).request.lrq = s.request.lrq := rfl

@[simp] theorem State.post_request_own (c : Completion) (s : State) :
    (s.post c).request.own = s.request.own := rfl

@[simp] theorem State.post_request_held (c : Completion) (s : State) :
    (s.post c).request.held = s.request.held := rfl

@[simp] theorem State.post_request_outcomes (c : Completion) (s : State) :
    (s.post c).request.outcomes = s.request.outcomes := rfl

@[simp] theorem State.post_request_reserved (c : Completion) (s : State) :
    (s.post c).request.reserved = s.request.reserved := rfl

@[simp] theorem State.post_request_auditDue (c : Completion) (s : State) :
    (s.post c).request.auditDue = s.request.auditDue := rfl

@[simp] theorem State.post_request_cursor (c : Completion) (s : State) :
    (s.post c).request.cursor = s.request.cursor := rfl

@[simp] theorem State.post_host_site (c : Completion) (s : State) :
    (s.post c).host.site = s.host.site := rfl

@[simp] theorem State.post_host_mask (c : Completion) (s : State) :
    (s.post c).host.mask = s.host.mask := rfl

@[simp] theorem State.post_host_lastCmd (c : Completion) (s : State) :
    (s.post c).host.lastCmd = s.host.lastCmd := rfl

@[simp] theorem State.post_host_find (c : Completion) (s : State) :
    (s.post c).host.find = s.host.find := rfl

@[simp] theorem State.post_host_selected (c : Completion) (s : State) :
    (s.post c).host.selected = s.host.selected := rfl

@[simp] theorem State.post_host_frame (c : Completion) (s : State) :
    (s.post c).host.frame = s.host.frame := rfl

@[simp] theorem State.post_host_sdo (c : Completion) (s : State) :
    (s.post c).host.sdo = s.host.sdo := rfl

@[simp] theorem State.post_host_requestBytes (c : Completion) (s : State) :
    (s.post c).host.requestBytes = s.host.requestBytes := rfl

@[simp] theorem State.post_host_compRead (c : Completion) (s : State) :
    (s.post c).host.compRead = s.host.compRead := rfl

@[simp] theorem State.post_host_noticeRead (c : Completion) (s : State) :
    (s.post c).host.noticeRead = s.host.noticeRead := rfl

@[simp] theorem State.post_host_viewRead (c : Completion) (s : State) :
    (s.post c).host.viewRead = s.host.viewRead := rfl

@[simp] theorem State.post_host_findRead (c : Completion) (s : State) :
    (s.post c).host.findRead = s.host.findRead := rfl

@[simp] theorem State.post_host_auditRead (c : Completion) (s : State) :
    (s.post c).host.auditRead = s.host.auditRead := rfl

@[simp] theorem State.post_host_eventsLatch (c : Completion) (s : State) :
    (s.post c).host.eventsLatch = s.host.eventsLatch := rfl

@[simp] theorem State.post_host_commitLatch (c : Completion) (s : State) :
    (s.post c).host.commitLatch = s.host.commitLatch := rfl

@[simp] theorem State.post_request_completions (c : Completion) (s : State) :
    (s.post c).request.completions = s.request.completions ++ [c] := rfl

@[simp] theorem State.post_host_events (c : Completion) (s : State) :
    (s.post c).host.events = s.host.events ||| 1#16 := rfl

/-! ### postReserved -/

@[simp] theorem State.postReserved_bus (c : Completion) (s : State) :
    (s.postReserved c).bus = s.bus := rfl

@[simp] theorem State.postReserved_engine (c : Completion) (s : State) :
    (s.postReserved c).engine = s.engine := rfl

@[simp] theorem State.postReserved_control (c : Completion) (s : State) :
    (s.postReserved c).control = s.control := rfl

@[simp] theorem State.postReserved_pending (c : Completion) (s : State) :
    (s.postReserved c).pending = s.pending := rfl

@[simp] theorem State.postReserved_request_lrq (c : Completion) (s : State) :
    (s.postReserved c).request.lrq = s.request.lrq := rfl

@[simp] theorem State.postReserved_request_own (c : Completion) (s : State) :
    (s.postReserved c).request.own = s.request.own := rfl

@[simp] theorem State.postReserved_request_held (c : Completion) (s : State) :
    (s.postReserved c).request.held = s.request.held := rfl

@[simp] theorem State.postReserved_request_outcomes (c : Completion) (s : State) :
    (s.postReserved c).request.outcomes = s.request.outcomes := rfl

@[simp] theorem State.postReserved_request_auditDue (c : Completion) (s : State) :
    (s.postReserved c).request.auditDue = s.request.auditDue := rfl

@[simp] theorem State.postReserved_request_cursor (c : Completion) (s : State) :
    (s.postReserved c).request.cursor = s.request.cursor := rfl

@[simp] theorem State.postReserved_host_site (c : Completion) (s : State) :
    (s.postReserved c).host.site = s.host.site := rfl

@[simp] theorem State.postReserved_host_mask (c : Completion) (s : State) :
    (s.postReserved c).host.mask = s.host.mask := rfl

@[simp] theorem State.postReserved_host_lastCmd (c : Completion) (s : State) :
    (s.postReserved c).host.lastCmd = s.host.lastCmd := rfl

@[simp] theorem State.postReserved_host_find (c : Completion) (s : State) :
    (s.postReserved c).host.find = s.host.find := rfl

@[simp] theorem State.postReserved_host_selected (c : Completion) (s : State) :
    (s.postReserved c).host.selected = s.host.selected := rfl

@[simp] theorem State.postReserved_host_frame (c : Completion) (s : State) :
    (s.postReserved c).host.frame = s.host.frame := rfl

@[simp] theorem State.postReserved_host_sdo (c : Completion) (s : State) :
    (s.postReserved c).host.sdo = s.host.sdo := rfl

@[simp] theorem State.postReserved_host_requestBytes (c : Completion) (s : State) :
    (s.postReserved c).host.requestBytes = s.host.requestBytes := rfl

@[simp] theorem State.postReserved_host_compRead (c : Completion) (s : State) :
    (s.postReserved c).host.compRead = s.host.compRead := rfl

@[simp] theorem State.postReserved_host_noticeRead (c : Completion) (s : State) :
    (s.postReserved c).host.noticeRead = s.host.noticeRead := rfl

@[simp] theorem State.postReserved_host_viewRead (c : Completion) (s : State) :
    (s.postReserved c).host.viewRead = s.host.viewRead := rfl

@[simp] theorem State.postReserved_host_findRead (c : Completion) (s : State) :
    (s.postReserved c).host.findRead = s.host.findRead := rfl

@[simp] theorem State.postReserved_host_auditRead (c : Completion) (s : State) :
    (s.postReserved c).host.auditRead = s.host.auditRead := rfl

@[simp] theorem State.postReserved_host_eventsLatch (c : Completion) (s : State) :
    (s.postReserved c).host.eventsLatch = s.host.eventsLatch := rfl

@[simp] theorem State.postReserved_host_commitLatch (c : Completion) (s : State) :
    (s.postReserved c).host.commitLatch = s.host.commitLatch := rfl

@[simp] theorem State.postReserved_request_completions (c : Completion) (s : State) :
    (s.postReserved c).request.completions = s.request.completions ++ [c] := rfl

@[simp] theorem State.postReserved_request_reserved (c : Completion) (s : State) :
    (s.postReserved c).request.reserved = s.request.reserved - 1 := rfl

@[simp] theorem State.postReserved_host_events (c : Completion) (s : State) :
    (s.postReserved c).host.events = s.host.events ||| 1#16 := rfl

/-! ### setLastCmd -/

@[simp] theorem State.setLastCmd_bus (l : LastCmd) (s : State) :
    (s.setLastCmd l).bus = s.bus := rfl

@[simp] theorem State.setLastCmd_engine (l : LastCmd) (s : State) :
    (s.setLastCmd l).engine = s.engine := rfl

@[simp] theorem State.setLastCmd_request (l : LastCmd) (s : State) :
    (s.setLastCmd l).request = s.request := rfl

@[simp] theorem State.setLastCmd_control (l : LastCmd) (s : State) :
    (s.setLastCmd l).control = s.control := rfl

@[simp] theorem State.setLastCmd_pending (l : LastCmd) (s : State) :
    (s.setLastCmd l).pending = s.pending := rfl

@[simp] theorem State.setLastCmd_host_events (l : LastCmd) (s : State) :
    (s.setLastCmd l).host.events = s.host.events := rfl

@[simp] theorem State.setLastCmd_host_site (l : LastCmd) (s : State) :
    (s.setLastCmd l).host.site = s.host.site := rfl

@[simp] theorem State.setLastCmd_host_mask (l : LastCmd) (s : State) :
    (s.setLastCmd l).host.mask = s.host.mask := rfl

@[simp] theorem State.setLastCmd_host_find (l : LastCmd) (s : State) :
    (s.setLastCmd l).host.find = s.host.find := rfl

@[simp] theorem State.setLastCmd_host_selected (l : LastCmd) (s : State) :
    (s.setLastCmd l).host.selected = s.host.selected := rfl

@[simp] theorem State.setLastCmd_host_frame (l : LastCmd) (s : State) :
    (s.setLastCmd l).host.frame = s.host.frame := rfl

@[simp] theorem State.setLastCmd_host_sdo (l : LastCmd) (s : State) :
    (s.setLastCmd l).host.sdo = s.host.sdo := rfl

@[simp] theorem State.setLastCmd_host_requestBytes (l : LastCmd) (s : State) :
    (s.setLastCmd l).host.requestBytes = s.host.requestBytes := rfl

@[simp] theorem State.setLastCmd_host_compRead (l : LastCmd) (s : State) :
    (s.setLastCmd l).host.compRead = s.host.compRead := rfl

@[simp] theorem State.setLastCmd_host_noticeRead (l : LastCmd) (s : State) :
    (s.setLastCmd l).host.noticeRead = s.host.noticeRead := rfl

@[simp] theorem State.setLastCmd_host_viewRead (l : LastCmd) (s : State) :
    (s.setLastCmd l).host.viewRead = s.host.viewRead := rfl

@[simp] theorem State.setLastCmd_host_findRead (l : LastCmd) (s : State) :
    (s.setLastCmd l).host.findRead = s.host.findRead := rfl

@[simp] theorem State.setLastCmd_host_auditRead (l : LastCmd) (s : State) :
    (s.setLastCmd l).host.auditRead = s.host.auditRead := rfl

@[simp] theorem State.setLastCmd_host_eventsLatch (l : LastCmd) (s : State) :
    (s.setLastCmd l).host.eventsLatch = s.host.eventsLatch := rfl

@[simp] theorem State.setLastCmd_host_commitLatch (l : LastCmd) (s : State) :
    (s.setLastCmd l).host.commitLatch = s.host.commitLatch := rfl

@[simp] theorem State.setLastCmd_host_lastCmd (l : LastCmd) (s : State) :
    (s.setLastCmd l).host.lastCmd = l := rfl

/-! ### moved -/

@[simp] theorem State.moved_bus (read : Bool) (a : Addr) (out : Byte) (s : State) :
    (s.moved read a out).bus = s.bus := rfl

@[simp] theorem State.moved_engine (read : Bool) (a : Addr) (out : Byte) (s : State) :
    (s.moved read a out).engine = s.engine := rfl

@[simp] theorem State.moved_request (read : Bool) (a : Addr) (out : Byte) (s : State) :
    (s.moved read a out).request = s.request := rfl

@[simp] theorem State.moved_control (read : Bool) (a : Addr) (out : Byte) (s : State) :
    (s.moved read a out).control = s.control := rfl

@[simp] theorem State.moved_pending (read : Bool) (a : Addr) (out : Byte) (s : State) :
    (s.moved read a out).pending = s.pending := rfl

@[simp] theorem State.moved_host_events (read : Bool) (a : Addr) (out : Byte) (s : State) :
    (s.moved read a out).host.events = s.host.events := rfl

@[simp] theorem State.moved_host_site (read : Bool) (a : Addr) (out : Byte) (s : State) :
    (s.moved read a out).host.site = s.host.site := rfl

@[simp] theorem State.moved_host_mask (read : Bool) (a : Addr) (out : Byte) (s : State) :
    (s.moved read a out).host.mask = s.host.mask := rfl

@[simp] theorem State.moved_host_lastCmd (read : Bool) (a : Addr) (out : Byte) (s : State) :
    (s.moved read a out).host.lastCmd = s.host.lastCmd := rfl

@[simp] theorem State.moved_host_find (read : Bool) (a : Addr) (out : Byte) (s : State) :
    (s.moved read a out).host.find = s.host.find := rfl

@[simp] theorem State.moved_host_requestBytes (read : Bool) (a : Addr) (out : Byte) (s : State) :
    (s.moved read a out).host.requestBytes = s.host.requestBytes := rfl

@[simp] theorem State.moved_host_compRead (read : Bool) (a : Addr) (out : Byte) (s : State) :
    (s.moved read a out).host.compRead = s.host.compRead := rfl

@[simp] theorem State.moved_host_noticeRead (read : Bool) (a : Addr) (out : Byte) (s : State) :
    (s.moved read a out).host.noticeRead = s.host.noticeRead := rfl

@[simp] theorem State.moved_host_viewRead (read : Bool) (a : Addr) (out : Byte) (s : State) :
    (s.moved read a out).host.viewRead = s.host.viewRead := rfl

@[simp] theorem State.moved_host_findRead (read : Bool) (a : Addr) (out : Byte) (s : State) :
    (s.moved read a out).host.findRead = s.host.findRead := rfl

@[simp] theorem State.moved_host_auditRead (read : Bool) (a : Addr) (out : Byte) (s : State) :
    (s.moved read a out).host.auditRead = s.host.auditRead := rfl

@[simp] theorem State.moved_host_eventsLatch (read : Bool) (a : Addr) (out : Byte) (s : State) :
    (s.moved read a out).host.eventsLatch = s.host.eventsLatch := rfl

@[simp] theorem State.moved_host_commitLatch (read : Bool) (a : Addr) (out : Byte) (s : State) :
    (s.moved read a out).host.commitLatch = s.host.commitLatch := rfl

@[simp] theorem State.moved_host_selected (read : Bool) (a : Addr) (out : Byte) (s : State) :
    (s.moved read a out).host.selected = true := rfl

@[simp] theorem State.moved_host_frame (read : Bool) (a : Addr) (out : Byte) (s : State) :
    (s.moved read a out).host.frame = some ⟨read, nextAddr a⟩ := rfl

@[simp] theorem State.moved_host_sdo (read : Bool) (a : Addr) (out : Byte) (s : State) :
    (s.moved read a out).host.sdo = some out := rfl

/-! ### startTransfer -/

@[simp] theorem State.startTransfer_engine (winner : StationNo) (own : Bool) (received : List Nibble) (s : State) :
    (s.startTransfer winner own received).engine = s.engine := rfl

@[simp] theorem State.startTransfer_request (winner : StationNo) (own : Bool) (received : List Nibble) (s : State) :
    (s.startTransfer winner own received).request = s.request := rfl

@[simp] theorem State.startTransfer_control (winner : StationNo) (own : Bool) (received : List Nibble) (s : State) :
    (s.startTransfer winner own received).control = s.control := rfl

@[simp] theorem State.startTransfer_host (winner : StationNo) (own : Bool) (received : List Nibble) (s : State) :
    (s.startTransfer winner own received).host = s.host := rfl

@[simp] theorem State.startTransfer_pending (winner : StationNo) (own : Bool) (received : List Nibble) (s : State) :
    (s.startTransfer winner own received).pending = s.pending := rfl

@[simp] theorem State.startTransfer_bus_station (winner : StationNo) (own : Bool) (received : List Nibble) (s : State) :
    (s.startTransfer winner own received).bus.station = s.bus.station := rfl

@[simp] theorem State.startTransfer_bus_locked (winner : StationNo) (own : Bool) (received : List Nibble) (s : State) :
    (s.startTransfer winner own received).bus.locked = s.bus.locked := rfl

@[simp] theorem State.startTransfer_bus_inStep (winner : StationNo) (own : Bool) (received : List Nibble) (s : State) :
    (s.startTransfer winner own received).bus.inStep = s.bus.inStep := rfl

@[simp] theorem State.startTransfer_bus_openList (winner : StationNo) (own : Bool) (received : List Nibble) (s : State) :
    (s.startTransfer winner own received).bus.openList = s.bus.openList := rfl

@[simp] theorem State.startTransfer_bus_window (winner : StationNo) (own : Bool) (received : List Nibble) (s : State) :
    (s.startTransfer winner own received).bus.window = s.bus.window := rfl

@[simp] theorem State.startTransfer_bus_commit (winner : StationNo) (own : Bool) (received : List Nibble) (s : State) :
    (s.startTransfer winner own received).bus.commit = s.bus.commit := rfl

@[simp] theorem State.startTransfer_bus_roster (winner : StationNo) (own : Bool) (received : List Nibble) (s : State) :
    (s.startTransfer winner own received).bus.roster = s.bus.roster := rfl

@[simp] theorem State.startTransfer_bus_syncList (winner : StationNo) (own : Bool) (received : List Nibble) (s : State) :
    (s.startTransfer winner own received).bus.syncList = s.bus.syncList := rfl

@[simp] theorem State.startTransfer_bus_joinCommit (winner : StationNo) (own : Bool) (received : List Nibble) (s : State) :
    (s.startTransfer winner own received).bus.joinCommit = s.bus.joinCommit := rfl

@[simp] theorem State.startTransfer_bus_restart (winner : StationNo) (own : Bool) (received : List Nibble) (s : State) :
    (s.startTransfer winner own received).bus.restart = s.bus.restart := rfl

@[simp] theorem State.startTransfer_bus_mrsDrive (winner : StationNo) (own : Bool) (received : List Nibble) (s : State) :
    (s.startTransfer winner own received).bus.mrsDrive = s.bus.mrsDrive := rfl

@[simp] theorem State.startTransfer_bus_priIn (winner : StationNo) (own : Bool) (received : List Nibble) (s : State) :
    (s.startTransfer winner own received).bus.priIn = s.bus.priIn := rfl

@[simp] theorem State.startTransfer_bus_tracker (winner : StationNo) (own : Bool) (received : List Nibble) (s : State) :
    (s.startTransfer winner own received).bus.tracker = s.bus.tracker := rfl

@[simp] theorem State.startTransfer_bus_applyQueue (winner : StationNo) (own : Bool) (received : List Nibble) (s : State) :
    (s.startTransfer winner own received).bus.applyQueue = s.bus.applyQueue := rfl

@[simp] theorem State.startTransfer_bus_turn (winner : StationNo) (own : Bool) (received : List Nibble) (s : State) :
    (s.startTransfer winner own received).bus.turn = startStation received winner := rfl

@[simp] theorem State.startTransfer_bus_inTransfer (winner : StationNo) (own : Bool) (received : List Nibble) (s : State) :
    (s.startTransfer winner own received).bus.inTransfer = 
      some ⟨winner, received, own, s.freeze, own, false⟩ := rfl

/-! ### Conditional updates -/

@[simp] theorem State.setEventIf_bus (b : Bool) (e : Event) (s : State) :
    (s.setEventIf b e).bus = s.bus := by
  unfold State.setEventIf; split <;> rfl

@[simp] theorem State.setEventIf_engine (b : Bool) (e : Event) (s : State) :
    (s.setEventIf b e).engine = s.engine := by
  unfold State.setEventIf; split <;> rfl

@[simp] theorem State.setEventIf_request (b : Bool) (e : Event) (s : State) :
    (s.setEventIf b e).request = s.request := by
  unfold State.setEventIf; split <;> rfl

@[simp] theorem State.setEventIf_control (b : Bool) (e : Event) (s : State) :
    (s.setEventIf b e).control = s.control := by
  unfold State.setEventIf; split <;> rfl

@[simp] theorem State.setEventIf_pending (b : Bool) (e : Event) (s : State) :
    (s.setEventIf b e).pending = s.pending := by
  unfold State.setEventIf; split <;> rfl

@[simp] theorem State.setEventIf_host_site (b : Bool) (e : Event) (s : State) :
    (s.setEventIf b e).host.site = s.host.site := by
  unfold State.setEventIf; split <;> rfl

@[simp] theorem State.setEventIf_host_mask (b : Bool) (e : Event) (s : State) :
    (s.setEventIf b e).host.mask = s.host.mask := by
  unfold State.setEventIf; split <;> rfl

@[simp] theorem State.setEventIf_host_lastCmd (b : Bool) (e : Event) (s : State) :
    (s.setEventIf b e).host.lastCmd = s.host.lastCmd := by
  unfold State.setEventIf; split <;> rfl

@[simp] theorem State.setEventIf_host_find (b : Bool) (e : Event) (s : State) :
    (s.setEventIf b e).host.find = s.host.find := by
  unfold State.setEventIf; split <;> rfl

@[simp] theorem State.setEventIf_host_selected (b : Bool) (e : Event) (s : State) :
    (s.setEventIf b e).host.selected = s.host.selected := by
  unfold State.setEventIf; split <;> rfl

@[simp] theorem State.setEventIf_host_frame (b : Bool) (e : Event) (s : State) :
    (s.setEventIf b e).host.frame = s.host.frame := by
  unfold State.setEventIf; split <;> rfl

@[simp] theorem State.setEventIf_host_sdo (b : Bool) (e : Event) (s : State) :
    (s.setEventIf b e).host.sdo = s.host.sdo := by
  unfold State.setEventIf; split <;> rfl

@[simp] theorem State.setEventIf_host_requestBytes (b : Bool) (e : Event) (s : State) :
    (s.setEventIf b e).host.requestBytes = s.host.requestBytes := by
  unfold State.setEventIf; split <;> rfl

@[simp] theorem State.setEventIf_host_compRead (b : Bool) (e : Event) (s : State) :
    (s.setEventIf b e).host.compRead = s.host.compRead := by
  unfold State.setEventIf; split <;> rfl

@[simp] theorem State.setEventIf_host_noticeRead (b : Bool) (e : Event) (s : State) :
    (s.setEventIf b e).host.noticeRead = s.host.noticeRead := by
  unfold State.setEventIf; split <;> rfl

@[simp] theorem State.setEventIf_host_viewRead (b : Bool) (e : Event) (s : State) :
    (s.setEventIf b e).host.viewRead = s.host.viewRead := by
  unfold State.setEventIf; split <;> rfl

@[simp] theorem State.setEventIf_host_findRead (b : Bool) (e : Event) (s : State) :
    (s.setEventIf b e).host.findRead = s.host.findRead := by
  unfold State.setEventIf; split <;> rfl

@[simp] theorem State.setEventIf_host_auditRead (b : Bool) (e : Event) (s : State) :
    (s.setEventIf b e).host.auditRead = s.host.auditRead := by
  unfold State.setEventIf; split <;> rfl

@[simp] theorem State.setEventIf_host_eventsLatch (b : Bool) (e : Event) (s : State) :
    (s.setEventIf b e).host.eventsLatch = s.host.eventsLatch := by
  unfold State.setEventIf; split <;> rfl

@[simp] theorem State.setEventIf_host_commitLatch (b : Bool) (e : Event) (s : State) :
    (s.setEventIf b e).host.commitLatch = s.host.commitLatch := by
  unfold State.setEventIf; split <;> rfl

@[simp] theorem State.setEventIf_true (e : Event) (s : State) :
    s.setEventIf true e = s.setEvent e := rfl

@[simp] theorem State.setEventIf_false (e : Event) (s : State) : s.setEventIf false e = s := rfl

@[simp] theorem State.assertMrs_engine (s : State) :
    (s.assertMrs).engine = s.engine := by
  unfold State.assertMrs; split <;> rfl

@[simp] theorem State.assertMrs_request (s : State) :
    (s.assertMrs).request = s.request := by
  unfold State.assertMrs; split <;> rfl

@[simp] theorem State.assertMrs_control (s : State) :
    (s.assertMrs).control = s.control := by
  unfold State.assertMrs; split <;> rfl

@[simp] theorem State.assertMrs_host (s : State) :
    (s.assertMrs).host = s.host := by
  unfold State.assertMrs; split <;> rfl

@[simp] theorem State.assertMrs_pending (s : State) :
    (s.assertMrs).pending = s.pending := by
  unfold State.assertMrs; split <;> rfl

@[simp] theorem State.assertMrs_bus_station (s : State) :
    (s.assertMrs).bus.station = s.bus.station := by
  unfold State.assertMrs; split <;> rfl

@[simp] theorem State.assertMrs_bus_locked (s : State) :
    (s.assertMrs).bus.locked = s.bus.locked := by
  unfold State.assertMrs; split <;> rfl

@[simp] theorem State.assertMrs_bus_inStep (s : State) :
    (s.assertMrs).bus.inStep = s.bus.inStep := by
  unfold State.assertMrs; split <;> rfl

@[simp] theorem State.assertMrs_bus_turn (s : State) :
    (s.assertMrs).bus.turn = s.bus.turn := by
  unfold State.assertMrs; split <;> rfl

@[simp] theorem State.assertMrs_bus_openList (s : State) :
    (s.assertMrs).bus.openList = s.bus.openList := by
  unfold State.assertMrs; split <;> rfl

@[simp] theorem State.assertMrs_bus_inTransfer (s : State) :
    (s.assertMrs).bus.inTransfer = s.bus.inTransfer := by
  unfold State.assertMrs; split <;> rfl

@[simp] theorem State.assertMrs_bus_window (s : State) :
    (s.assertMrs).bus.window = s.bus.window := by
  unfold State.assertMrs; split <;> rfl

@[simp] theorem State.assertMrs_bus_commit (s : State) :
    (s.assertMrs).bus.commit = s.bus.commit := by
  unfold State.assertMrs; split <;> rfl

@[simp] theorem State.assertMrs_bus_roster (s : State) :
    (s.assertMrs).bus.roster = s.bus.roster := by
  unfold State.assertMrs; split <;> rfl

@[simp] theorem State.assertMrs_bus_syncList (s : State) :
    (s.assertMrs).bus.syncList = s.bus.syncList := by
  unfold State.assertMrs; split <;> rfl

@[simp] theorem State.assertMrs_bus_joinCommit (s : State) :
    (s.assertMrs).bus.joinCommit = s.bus.joinCommit := by
  unfold State.assertMrs; split <;> rfl

@[simp] theorem State.assertMrs_bus_restart (s : State) :
    (s.assertMrs).bus.restart = s.bus.restart := by
  unfold State.assertMrs; split <;> rfl

@[simp] theorem State.assertMrs_bus_priIn (s : State) :
    (s.assertMrs).bus.priIn = s.bus.priIn := by
  unfold State.assertMrs; split <;> rfl

@[simp] theorem State.assertMrs_bus_tracker (s : State) :
    (s.assertMrs).bus.tracker = s.bus.tracker := by
  unfold State.assertMrs; split <;> rfl

@[simp] theorem State.assertMrs_bus_applyQueue (s : State) :
    (s.assertMrs).bus.applyQueue = s.bus.applyQueue := by
  unfold State.assertMrs; split <;> rfl

/-- A member that detects a violation outside an episode asserts MRS (R81). -/
theorem State.assertMrs_drives (s : State) (h : s.bus.restart = false) :
    s.assertMrs.bus.mrsDrive = true := by simp [State.assertMrs, h]

@[simp] theorem State.reach_bus (read : Bool) (a : Addr) (s : State) :
    (s.reach read a).bus = s.bus := by
  unfold State.reach; split <;> rfl

@[simp] theorem State.reach_engine (read : Bool) (a : Addr) (s : State) :
    (s.reach read a).engine = s.engine := by
  unfold State.reach; split <;> rfl

@[simp] theorem State.reach_request (read : Bool) (a : Addr) (s : State) :
    (s.reach read a).request = s.request := by
  unfold State.reach; split <;> rfl

@[simp] theorem State.reach_control (read : Bool) (a : Addr) (s : State) :
    (s.reach read a).control = s.control := by
  unfold State.reach; split <;> rfl

@[simp] theorem State.reach_pending (read : Bool) (a : Addr) (s : State) :
    (s.reach read a).pending = s.pending := by
  unfold State.reach; split <;> rfl

@[simp] theorem State.reach_host_site (read : Bool) (a : Addr) (s : State) :
    (s.reach read a).host.site = s.host.site := by
  unfold State.reach; split <;> rfl

@[simp] theorem State.reach_host_events (read : Bool) (a : Addr) (s : State) :
    (s.reach read a).host.events = s.host.events := by
  unfold State.reach; split <;> rfl

@[simp] theorem State.reach_host_mask (read : Bool) (a : Addr) (s : State) :
    (s.reach read a).host.mask = s.host.mask := by
  unfold State.reach; split <;> rfl

@[simp] theorem State.reach_host_lastCmd (read : Bool) (a : Addr) (s : State) :
    (s.reach read a).host.lastCmd = s.host.lastCmd := by
  unfold State.reach; split <;> rfl

@[simp] theorem State.reach_host_find (read : Bool) (a : Addr) (s : State) :
    (s.reach read a).host.find = s.host.find := by
  unfold State.reach; split <;> rfl

/-- A byte at the current address of the frame in progress finds the frame as it is. -/
theorem State.reach_same (read : Bool) (a : Addr) (s : State)
    (h : s.host.frame = some ⟨read, a⟩) : s.reach read a = s := by simp [State.reach, h]

/-- Any other byte begins a new frame. -/
theorem State.reach_new (read : Bool) (a : Addr) (s : State)
    (h : s.host.frame ≠ some ⟨read, a⟩) :
    s.reach read a =
      { s with host := s.host.beginFrame.commandByte (commandFor read a) } := by
  simp [State.reach, h]

/-- The command byte for a direction and an address leads there (R179). -/
@[simp] theorem HostPort.commandByte_for (read : Bool) (a : Addr) (h : HostPort) :
    (h.commandByte (commandFor read a)).frame = some ⟨read, a⟩ := by
  have key : ∀ (r : Bool) (b : Addr),
      (commandFor r b).msb = r ∧ (commandFor r b).extractLsb' 0 7 = b := by decide
  simp [HostPort.commandByte, (key read a).1, (key read a).2]

/-! ### Tables -/

@[simp] theorem getElem_tab {α : Type} {n : Nat} (f : Fin n → α) (i : Fin n) :
    (tab f)[i] = f i := by simp [tab]

@[simp] theorem getElem_put_same {α : Type} {n : Nat} (v : Vector α n) (i : Fin n) (x : α) :
    (put v i x)[i] = x := by simp [put]

theorem getElem_put_other {α : Type} {n : Nat} (v : Vector α n) (i j : Fin n) (x : α)
    (h : i ≠ j) : (put v i x)[j] = v[j] := by
  simp [put, Fin.val_ne_of_ne h]

theorem mem_upTo {n : Nat} (i : Fin n) : i ∈ upTo n := by simp [upTo, List.mem_ofFn]

/-- The first entry of a table at which a condition holds. -/
theorem find?_upTo_eq_some (n : Nat) (p : Fin n → Bool) (i : Fin n) :
    (upTo n).find? p = some i ↔ p i = true ∧ ∀ j : Fin n, j < i → p j = false := by
  rw [List.find?_eq_some_iff_getElem]
  constructor
  · rintro ⟨h, k, hk, hi, hj⟩
    have hn : k < n := by simpa [upTo] using hk
    have hki : (⟨k, hn⟩ : Fin n) = i := by simpa [upTo] using hi
    subst hki
    refine ⟨h, fun j hlt => ?_⟩
    simpa [upTo] using hj j.val hlt
  · rintro ⟨h, hj⟩
    refine ⟨h, i.val, by simp [upTo], by simp [upTo], fun j hlt => ?_⟩
    simpa [upTo] using hj ⟨j, by omega⟩ hlt

/-- No entry of a table at which a condition holds. -/
theorem find?_upTo_eq_none (n : Nat) (p : Fin n → Bool) :
    (upTo n).find? p = none ↔ ∀ i, p i = false := by
  simp [List.find?_eq_none, mem_upTo]

end Sys2Proof.Machine
end

