-- ==== Sys2Proof/Laws/Ops.lean ====
section
/-!
SUPPORT. Frames of the shared operations: the blocks of State that the choice of the own record,
the entry into LEAVING and OUTSIDE, the end of an own record, an arriving entry and a CONTROL write
leave as they are, and what they do to the station state.
-/
namespace Sys2Proof.Machine

/-! ### The choice of the own record (R147) -/

@[simp] theorem State.chooseOrdinary_bus (s : State) :
    (s.chooseOrdinary).bus = s.bus := by
  unfold State.chooseOrdinary; repeat (first | rfl | split)

@[simp] theorem State.chooseOrdinary_engine (s : State) :
    (s.chooseOrdinary).engine = s.engine := by
  unfold State.chooseOrdinary; repeat (first | rfl | split)

@[simp] theorem State.chooseOrdinary_control (s : State) :
    (s.chooseOrdinary).control = s.control := by
  unfold State.chooseOrdinary; repeat (first | rfl | split)

@[simp] theorem State.chooseOrdinary_host (s : State) :
    (s.chooseOrdinary).host = s.host := by
  unfold State.chooseOrdinary; repeat (first | rfl | split)

@[simp] theorem State.chooseOrdinary_pending (s : State) :
    (s.chooseOrdinary).pending = s.pending := by
  unfold State.chooseOrdinary; repeat (first | rfl | split)

@[simp] theorem State.chooseOrdinary_request_lrq (s : State) :
    (s.chooseOrdinary).request.lrq = s.request.lrq := by
  unfold State.chooseOrdinary; repeat (first | rfl | split)

@[simp] theorem State.chooseOrdinary_request_outcomes (s : State) :
    (s.chooseOrdinary).request.outcomes = s.request.outcomes := by
  unfold State.chooseOrdinary; repeat (first | rfl | split)

@[simp] theorem State.chooseOrdinary_request_completions (s : State) :
    (s.chooseOrdinary).request.completions = s.request.completions := by
  unfold State.chooseOrdinary; repeat (first | rfl | split)

@[simp] theorem State.chooseOrdinary_request_cursor (s : State) :
    (s.chooseOrdinary).request.cursor = s.request.cursor := by
  unfold State.chooseOrdinary; repeat (first | rfl | split)

@[simp] theorem State.choose_bus (s : State) :
    (s.choose).bus = s.bus := by
  unfold State.choose; repeat (first | rfl | simp | split)

@[simp] theorem State.choose_engine (s : State) :
    (s.choose).engine = s.engine := by
  unfold State.choose; repeat (first | rfl | simp | split)

@[simp] theorem State.choose_control (s : State) :
    (s.choose).control = s.control := by
  unfold State.choose; repeat (first | rfl | simp | split)

@[simp] theorem State.choose_host (s : State) :
    (s.choose).host = s.host := by
  unfold State.choose; repeat (first | rfl | simp | split)

@[simp] theorem State.choose_pending (s : State) :
    (s.choose).pending = s.pending := by
  unfold State.choose; repeat (first | rfl | simp | split)

@[simp] theorem State.choose_request_lrq (s : State) :
    (s.choose).request.lrq = s.request.lrq := by
  unfold State.choose; repeat (first | rfl | simp | split)

@[simp] theorem State.choose_request_outcomes (s : State) :
    (s.choose).request.outcomes = s.request.outcomes := by
  unfold State.choose; repeat (first | rfl | simp | split)

@[simp] theorem State.choose_request_completions (s : State) :
    (s.choose).request.completions = s.request.completions := by
  unfold State.choose; repeat (first | rfl | simp | split)

@[simp] theorem State.choose_request_cursor (s : State) :
    (s.choose).request.cursor = s.request.cursor := by
  unfold State.choose; repeat (first | rfl | simp | split)

/-- Nothing is chosen while there is an own record (R147). -/
theorem State.choose_of_own (s : State) (h : s.request.own ≠ none) : s.choose = s := by
  have : s.request.own.isSome = true := Option.isSome_iff_ne_none.mpr h
  simp [State.choose, this]

/-- Nothing is chosen in CONFIG, OUTSIDE and SYNCING (R147). -/
theorem State.choose_of_idle_state (s : State)
    (h : s.control.station = .config ∨ s.control.station = .outside ∨
      s.control.station = .syncing) : s.choose = s := by
  rcases h with h | h | h <;> simp [State.choose, h]

/-- A JOINING station without an own record chooses its JOIN (R147, candidate 1). -/
theorem State.choose_joining (s : State) (h : s.control.station = .joining)
    (o : s.request.own = none) : s.choose = s.setOwn (Own.fresh .join) := by
  simp [State.choose, h, o]

/-- A LEAVING station without an own record chooses its LEAVE (R147, candidate 2). -/
theorem State.choose_leaving (s : State) (h : s.control.station = .leaving)
    (o : s.request.own = none) : s.choose = s.setOwn (Own.fresh .leave) := by
  simp [State.choose, h, o]

/-- The choice of a due entry AUDIT (R147, candidate 5). -/
theorem State.choose_entryAudit (s : State) (station : s.control.station = .active)
    (freeze : s.freeze = false) (own : s.request.own = none) (held : s.request.held = none)
    (due : s.request.auditDue = true) (free : s.request.freePlaces ≠ 0) :
    s.choose = { s with request := { s.request with
      own := some (Own.fresh (.ordinary ⟨Config.entryAuditRef, .audit⟩ true))
      auditDue := false, reserved := s.request.reserved + 1 } } := by
  simp [State.choose, State.chooseOrdinary, station, freeze, own, held, due, free]

/-! ### Leaving and exit (R117, R156, R157) -/

@[simp] theorem State.dropChosen_bus (s : State) :
    (s.dropChosen).bus = s.bus := by
  unfold State.dropChosen; repeat (first | rfl | simp | split)

@[simp] theorem State.dropChosen_engine (s : State) :
    (s.dropChosen).engine = s.engine := by
  unfold State.dropChosen; repeat (first | rfl | simp | split)

@[simp] theorem State.dropChosen_control (s : State) :
    (s.dropChosen).control = s.control := by
  unfold State.dropChosen; repeat (first | rfl | simp | split)

@[simp] theorem State.dropChosen_pending (s : State) :
    (s.dropChosen).pending = s.pending := by
  unfold State.dropChosen; repeat (first | rfl | simp | split)

@[simp] theorem State.dropChosen_request_lrq (s : State) :
    (s.dropChosen).request.lrq = s.request.lrq := by
  unfold State.dropChosen; repeat (first | rfl | simp | split)

@[simp] theorem State.dropChosen_request_held (s : State) :
    (s.dropChosen).request.held = s.request.held := by
  unfold State.dropChosen; repeat (first | rfl | simp | split)

@[simp] theorem State.dropChosen_request_outcomes (s : State) :
    (s.dropChosen).request.outcomes = s.request.outcomes := by
  unfold State.dropChosen; repeat (first | rfl | simp | split)

@[simp] theorem State.dropChosen_request_auditDue (s : State) :
    (s.dropChosen).request.auditDue = s.request.auditDue := by
  unfold State.dropChosen; repeat (first | rfl | simp | split)

@[simp] theorem State.dropChosen_request_cursor (s : State) :
    (s.dropChosen).request.cursor = s.request.cursor := by
  unfold State.dropChosen; repeat (first | rfl | simp | split)

@[simp] theorem State.dropChosen_host_site (s : State) :
    (s.dropChosen).host.site = s.host.site := by
  unfold State.dropChosen; repeat (first | rfl | simp | split)

@[simp] theorem State.dropChosen_host_mask (s : State) :
    (s.dropChosen).host.mask = s.host.mask := by
  unfold State.dropChosen; repeat (first | rfl | simp | split)

@[simp] theorem State.dropChosen_host_lastCmd (s : State) :
    (s.dropChosen).host.lastCmd = s.host.lastCmd := by
  unfold State.dropChosen; repeat (first | rfl | simp | split)

@[simp] theorem State.dropChosen_host_find (s : State) :
    (s.dropChosen).host.find = s.host.find := by
  unfold State.dropChosen; repeat (first | rfl | simp | split)

@[simp] theorem State.dropChosen_host_selected (s : State) :
    (s.dropChosen).host.selected = s.host.selected := by
  unfold State.dropChosen; repeat (first | rfl | simp | split)

@[simp] theorem State.dropChosen_host_frame (s : State) :
    (s.dropChosen).host.frame = s.host.frame := by
  unfold State.dropChosen; repeat (first | rfl | simp | split)

@[simp] theorem State.dropChosen_host_sdo (s : State) :
    (s.dropChosen).host.sdo = s.host.sdo := by
  unfold State.dropChosen; repeat (first | rfl | simp | split)

@[simp] theorem State.dropChosen_host_requestBytes (s : State) :
    (s.dropChosen).host.requestBytes = s.host.requestBytes := by
  unfold State.dropChosen; repeat (first | rfl | simp | split)

@[simp] theorem State.dropChosen_host_compRead (s : State) :
    (s.dropChosen).host.compRead = s.host.compRead := by
  unfold State.dropChosen; repeat (first | rfl | simp | split)

@[simp] theorem State.dropChosen_host_noticeRead (s : State) :
    (s.dropChosen).host.noticeRead = s.host.noticeRead := by
  unfold State.dropChosen; repeat (first | rfl | simp | split)

@[simp] theorem State.dropChosen_host_viewRead (s : State) :
    (s.dropChosen).host.viewRead = s.host.viewRead := by
  unfold State.dropChosen; repeat (first | rfl | simp | split)

@[simp] theorem State.dropChosen_host_findRead (s : State) :
    (s.dropChosen).host.findRead = s.host.findRead := by
  unfold State.dropChosen; repeat (first | rfl | simp | split)

@[simp] theorem State.dropChosen_host_auditRead (s : State) :
    (s.dropChosen).host.auditRead = s.host.auditRead := by
  unfold State.dropChosen; repeat (first | rfl | simp | split)

@[simp] theorem State.dropChosen_host_eventsLatch (s : State) :
    (s.dropChosen).host.eventsLatch = s.host.eventsLatch := by
  unfold State.dropChosen; repeat (first | rfl | simp | split)

@[simp] theorem State.dropChosen_host_commitLatch (s : State) :
    (s.dropChosen).host.commitLatch = s.host.commitLatch := by
  unfold State.dropChosen; repeat (first | rfl | simp | split)

@[simp] theorem State.dropHeld_bus (s : State) :
    (s.dropHeld).bus = s.bus := by
  unfold State.dropHeld; repeat (first | rfl | split)

@[simp] theorem State.dropHeld_engine (s : State) :
    (s.dropHeld).engine = s.engine := by
  unfold State.dropHeld; repeat (first | rfl | split)

@[simp] theorem State.dropHeld_control (s : State) :
    (s.dropHeld).control = s.control := by
  unfold State.dropHeld; repeat (first | rfl | split)

@[simp] theorem State.dropHeld_pending (s : State) :
    (s.dropHeld).pending = s.pending := by
  unfold State.dropHeld; repeat (first | rfl | split)

@[simp] theorem State.dropHeld_request_lrq (s : State) :
    (s.dropHeld).request.lrq = s.request.lrq := by
  unfold State.dropHeld; repeat (first | rfl | split)

@[simp] theorem State.dropHeld_request_own (s : State) :
    (s.dropHeld).request.own = s.request.own := by
  unfold State.dropHeld; repeat (first | rfl | split)

@[simp] theorem State.dropHeld_request_outcomes (s : State) :
    (s.dropHeld).request.outcomes = s.request.outcomes := by
  unfold State.dropHeld; repeat (first | rfl | split)

@[simp] theorem State.dropHeld_request_auditDue (s : State) :
    (s.dropHeld).request.auditDue = s.request.auditDue := by
  unfold State.dropHeld; repeat (first | rfl | split)

@[simp] theorem State.dropHeld_request_cursor (s : State) :
    (s.dropHeld).request.cursor = s.request.cursor := by
  unfold State.dropHeld; repeat (first | rfl | split)

@[simp] theorem State.dropHeld_host_site (s : State) :
    (s.dropHeld).host.site = s.host.site := by
  unfold State.dropHeld; repeat (first | rfl | split)

@[simp] theorem State.dropHeld_host_mask (s : State) :
    (s.dropHeld).host.mask = s.host.mask := by
  unfold State.dropHeld; repeat (first | rfl | split)

@[simp] theorem State.dropHeld_host_lastCmd (s : State) :
    (s.dropHeld).host.lastCmd = s.host.lastCmd := by
  unfold State.dropHeld; repeat (first | rfl | split)

@[simp] theorem State.dropHeld_host_find (s : State) :
    (s.dropHeld).host.find = s.host.find := by
  unfold State.dropHeld; repeat (first | rfl | split)

@[simp] theorem State.dropHeld_host_selected (s : State) :
    (s.dropHeld).host.selected = s.host.selected := by
  unfold State.dropHeld; repeat (first | rfl | split)

@[simp] theorem State.dropHeld_host_frame (s : State) :
    (s.dropHeld).host.frame = s.host.frame := by
  unfold State.dropHeld; repeat (first | rfl | split)

@[simp] theorem State.dropHeld_host_sdo (s : State) :
    (s.dropHeld).host.sdo = s.host.sdo := by
  unfold State.dropHeld; repeat (first | rfl | split)

@[simp] theorem State.dropHeld_host_requestBytes (s : State) :
    (s.dropHeld).host.requestBytes = s.host.requestBytes := by
  unfold State.dropHeld; repeat (first | rfl | split)

@[simp] theorem State.dropHeld_host_compRead (s : State) :
    (s.dropHeld).host.compRead = s.host.compRead := by
  unfold State.dropHeld; repeat (first | rfl | split)

@[simp] theorem State.dropHeld_host_noticeRead (s : State) :
    (s.dropHeld).host.noticeRead = s.host.noticeRead := by
  unfold State.dropHeld; repeat (first | rfl | split)

@[simp] theorem State.dropHeld_host_viewRead (s : State) :
    (s.dropHeld).host.viewRead = s.host.viewRead := by
  unfold State.dropHeld; repeat (first | rfl | split)

@[simp] theorem State.dropHeld_host_findRead (s : State) :
    (s.dropHeld).host.findRead = s.host.findRead := by
  unfold State.dropHeld; repeat (first | rfl | split)

@[simp] theorem State.dropHeld_host_auditRead (s : State) :
    (s.dropHeld).host.auditRead = s.host.auditRead := by
  unfold State.dropHeld; repeat (first | rfl | split)

@[simp] theorem State.dropHeld_host_eventsLatch (s : State) :
    (s.dropHeld).host.eventsLatch = s.host.eventsLatch := by
  unfold State.dropHeld; repeat (first | rfl | split)

@[simp] theorem State.dropHeld_host_commitLatch (s : State) :
    (s.dropHeld).host.commitLatch = s.host.commitLatch := by
  unfold State.dropHeld; repeat (first | rfl | split)

@[simp] theorem State.dropHeld_request_held (s : State) : s.dropHeld.request.held = none := by
  unfold State.dropHeld; repeat (first | rfl | assumption | split)

/-- After the drop of a chosen record the own record is none, unless it is on the bus. -/
theorem State.dropChosen_own (s : State) :
    s.dropChosen.request.own = s.request.own.filter (fun o => o.cond == .onBus) := by
  unfold State.dropChosen
  rcases h : s.request.own with _ | ⟨what, cond, won, f, r, cs⟩
  · simp [h]
  · cases cond <;> cases what <;> cases won <;> simp [h] <;> rfl

/-- Posting CANCELLED for a list of entries leaves whatever each posting leaves. -/
theorem cancelAll_keeps {α : Type} (f : State → α)
    (h : ∀ (c : Completion) (t : State), f (t.postReserved c) = f t)
    (l : List OutcomeEntry) (s : State) :
    f (l.foldl (fun t o => t.postReserved o.cancelled) s) = f s := by
  induction l generalizing s with
  | nil => rfl
  | cons o rest ih => rw [List.foldl_cons, ih, h]

@[simp] theorem State.cancelOutcomes_bus (s : State) :
    s.cancelOutcomes.bus = s.bus :=
  cancelAll_keeps (fun t => t.bus) (fun _ _ => rfl) s.request.outcomes s

@[simp] theorem State.cancelOutcomes_engine (s : State) :
    s.cancelOutcomes.engine = s.engine :=
  cancelAll_keeps (fun t => t.engine) (fun _ _ => rfl) s.request.outcomes s

@[simp] theorem State.cancelOutcomes_control (s : State) :
    s.cancelOutcomes.control = s.control :=
  cancelAll_keeps (fun t => t.control) (fun _ _ => rfl) s.request.outcomes s

@[simp] theorem State.cancelOutcomes_pending (s : State) :
    s.cancelOutcomes.pending = s.pending :=
  cancelAll_keeps (fun t => t.pending) (fun _ _ => rfl) s.request.outcomes s

@[simp] theorem State.cancelOutcomes_request_lrq (s : State) :
    s.cancelOutcomes.request.lrq = s.request.lrq :=
  cancelAll_keeps (fun t => t.request.lrq) (fun _ _ => rfl) s.request.outcomes s

@[simp] theorem State.cancelOutcomes_request_own (s : State) :
    s.cancelOutcomes.request.own = s.request.own :=
  cancelAll_keeps (fun t => t.request.own) (fun _ _ => rfl) s.request.outcomes s

@[simp] theorem State.cancelOutcomes_request_held (s : State) :
    s.cancelOutcomes.request.held = s.request.held :=
  cancelAll_keeps (fun t => t.request.held) (fun _ _ => rfl) s.request.outcomes s

@[simp] theorem State.cancelOutcomes_request_auditDue (s : State) :
    s.cancelOutcomes.request.auditDue = s.request.auditDue :=
  cancelAll_keeps (fun t => t.request.auditDue) (fun _ _ => rfl) s.request.outcomes s

@[simp] theorem State.cancelOutcomes_request_cursor (s : State) :
    s.cancelOutcomes.request.cursor = s.request.cursor :=
  cancelAll_keeps (fun t => t.request.cursor) (fun _ _ => rfl) s.request.outcomes s

@[simp] theorem State.cancelOutcomes_host_site (s : State) :
    s.cancelOutcomes.host.site = s.host.site :=
  cancelAll_keeps (fun t => t.host.site) (fun _ _ => rfl) s.request.outcomes s

@[simp] theorem State.cancelOutcomes_host_mask (s : State) :
    s.cancelOutcomes.host.mask = s.host.mask :=
  cancelAll_keeps (fun t => t.host.mask) (fun _ _ => rfl) s.request.outcomes s

@[simp] theorem State.cancelOutcomes_host_lastCmd (s : State) :
    s.cancelOutcomes.host.lastCmd = s.host.lastCmd :=
  cancelAll_keeps (fun t => t.host.lastCmd) (fun _ _ => rfl) s.request.outcomes s

@[simp] theorem State.cancelOutcomes_host_find (s : State) :
    s.cancelOutcomes.host.find = s.host.find :=
  cancelAll_keeps (fun t => t.host.find) (fun _ _ => rfl) s.request.outcomes s

@[simp] theorem State.cancelOutcomes_host_selected (s : State) :
    s.cancelOutcomes.host.selected = s.host.selected :=
  cancelAll_keeps (fun t => t.host.selected) (fun _ _ => rfl) s.request.outcomes s

@[simp] theorem State.cancelOutcomes_host_frame (s : State) :
    s.cancelOutcomes.host.frame = s.host.frame :=
  cancelAll_keeps (fun t => t.host.frame) (fun _ _ => rfl) s.request.outcomes s

@[simp] theorem State.cancelOutcomes_host_sdo (s : State) :
    s.cancelOutcomes.host.sdo = s.host.sdo :=
  cancelAll_keeps (fun t => t.host.sdo) (fun _ _ => rfl) s.request.outcomes s

@[simp] theorem State.cancelOutcomes_host_requestBytes (s : State) :
    s.cancelOutcomes.host.requestBytes = s.host.requestBytes :=
  cancelAll_keeps (fun t => t.host.requestBytes) (fun _ _ => rfl) s.request.outcomes s

@[simp] theorem State.cancelOutcomes_host_compRead (s : State) :
    s.cancelOutcomes.host.compRead = s.host.compRead :=
  cancelAll_keeps (fun t => t.host.compRead) (fun _ _ => rfl) s.request.outcomes s

@[simp] theorem State.cancelOutcomes_host_noticeRead (s : State) :
    s.cancelOutcomes.host.noticeRead = s.host.noticeRead :=
  cancelAll_keeps (fun t => t.host.noticeRead) (fun _ _ => rfl) s.request.outcomes s

@[simp] theorem State.cancelOutcomes_host_viewRead (s : State) :
    s.cancelOutcomes.host.viewRead = s.host.viewRead :=
  cancelAll_keeps (fun t => t.host.viewRead) (fun _ _ => rfl) s.request.outcomes s

@[simp] theorem State.cancelOutcomes_host_findRead (s : State) :
    s.cancelOutcomes.host.findRead = s.host.findRead :=
  cancelAll_keeps (fun t => t.host.findRead) (fun _ _ => rfl) s.request.outcomes s

@[simp] theorem State.cancelOutcomes_host_auditRead (s : State) :
    s.cancelOutcomes.host.auditRead = s.host.auditRead :=
  cancelAll_keeps (fun t => t.host.auditRead) (fun _ _ => rfl) s.request.outcomes s

@[simp] theorem State.cancelOutcomes_host_eventsLatch (s : State) :
    s.cancelOutcomes.host.eventsLatch = s.host.eventsLatch :=
  cancelAll_keeps (fun t => t.host.eventsLatch) (fun _ _ => rfl) s.request.outcomes s

@[simp] theorem State.cancelOutcomes_host_commitLatch (s : State) :
    s.cancelOutcomes.host.commitLatch = s.host.commitLatch :=
  cancelAll_keeps (fun t => t.host.commitLatch) (fun _ _ => rfl) s.request.outcomes s

@[simp] theorem State.cancelOutcomes_request_outcomes (s : State) :
    s.cancelOutcomes.request.outcomes = [] := rfl

/-- The completions posted for a list of entries, in its order. -/
theorem cancelAll_completions (l : List OutcomeEntry) (s : State) :
    (l.foldl (fun t o => t.postReserved o.cancelled) s).request.completions =
      s.request.completions ++ l.map OutcomeEntry.cancelled := by
  induction l generalizing s with
  | nil => simp
  | cons o rest ih => rw [List.foldl_cons, ih]; simp

/-- The reserved places given up for a list of entries. -/
theorem cancelAll_reserved (l : List OutcomeEntry) (s : State) :
    (l.foldl (fun t o => t.postReserved o.cancelled) s).request.reserved =
      s.request.reserved - l.length := by
  induction l generalizing s with
  | nil => simp
  | cons o rest ih => rw [List.foldl_cons, ih]; simp; omega

/-- Step 1 of R157: every entry of the outcome list gives a completion CANCELLED, in order. -/
theorem State.cancelOutcomes_completions (s : State) :
    s.cancelOutcomes.request.completions =
      s.request.completions ++ s.request.outcomes.map OutcomeEntry.cancelled :=
  cancelAll_completions s.request.outcomes s

theorem State.cancelOutcomes_reserved (s : State) :
    s.cancelOutcomes.request.reserved = s.request.reserved - s.request.outcomes.length :=
  cancelAll_reserved s.request.outcomes s

@[simp] theorem State.enterOutside_bus (cause : ExitCause) (last : Nat → LastCmd) (s : State) :
    (s.enterOutside cause last).bus = s.bus.exit := by
  simp [State.enterOutside]

@[simp] theorem State.enterOutside_engine (cause : ExitCause) (last : Nat → LastCmd) (s : State) :
    (s.enterOutside cause last).engine = s.engine.exit := by
  simp [State.enterOutside]

@[simp] theorem State.enterOutside_control (cause : ExitCause) (last : Nat → LastCmd) (s : State) :
    (s.enterOutside cause last).control = s.control.exit cause := by
  simp [State.enterOutside]

@[simp] theorem State.enterOutside_pending (cause : ExitCause) (last : Nat → LastCmd) (s : State) :
    (s.enterOutside cause last).pending = s.pending := by
  simp [State.enterOutside]

@[simp] theorem State.enterOutside_request_lrq (cause : ExitCause) (last : Nat → LastCmd) (s : State) :
    (s.enterOutside cause last).request.lrq = [] := by
  simp [State.enterOutside]

@[simp] theorem State.enterOutside_request_outcomes (cause : ExitCause) (last : Nat → LastCmd) (s : State) :
    (s.enterOutside cause last).request.outcomes = [] := by
  simp [State.enterOutside]

@[simp] theorem State.enterOutside_request_held (cause : ExitCause) (last : Nat → LastCmd) (s : State) :
    (s.enterOutside cause last).request.held = none := by
  simp [State.enterOutside]

@[simp] theorem State.enterOutside_request_auditDue (cause : ExitCause) (last : Nat → LastCmd) (s : State) :
    (s.enterOutside cause last).request.auditDue = false := by
  simp [State.enterOutside]

@[simp] theorem State.enterOutside_request_cursor (cause : ExitCause) (last : Nat → LastCmd) (s : State) :
    (s.enterOutside cause last).request.cursor = Cursor.idle := by
  simp [State.enterOutside]

@[simp] theorem State.enterOutside_host_lastCmd (cause : ExitCause) (last : Nat → LastCmd) (s : State) :
    (s.enterOutside cause last).host.lastCmd = last s.request.lrq.length := by
  simp [State.enterOutside]

@[simp] theorem State.enterOutside_host_site (cause : ExitCause) (last : Nat → LastCmd) (s : State) :
    (s.enterOutside cause last).host.site = s.host.site := by
  simp [State.enterOutside]

@[simp] theorem State.enterOutside_host_mask (cause : ExitCause) (last : Nat → LastCmd) (s : State) :
    (s.enterOutside cause last).host.mask = s.host.mask := by
  simp [State.enterOutside]

@[simp] theorem State.enterOutside_host_find (cause : ExitCause) (last : Nat → LastCmd) (s : State) :
    (s.enterOutside cause last).host.find = s.host.find := by
  simp [State.enterOutside]

@[simp] theorem State.enterOutside_host_selected (cause : ExitCause) (last : Nat → LastCmd) (s : State) :
    (s.enterOutside cause last).host.selected = s.host.selected := by
  simp [State.enterOutside]

@[simp] theorem State.enterOutside_host_frame (cause : ExitCause) (last : Nat → LastCmd) (s : State) :
    (s.enterOutside cause last).host.frame = s.host.frame := by
  simp [State.enterOutside]

@[simp] theorem State.enterOutside_host_sdo (cause : ExitCause) (last : Nat → LastCmd) (s : State) :
    (s.enterOutside cause last).host.sdo = s.host.sdo := by
  simp [State.enterOutside]

@[simp] theorem State.enterOutside_host_requestBytes (cause : ExitCause) (last : Nat → LastCmd) (s : State) :
    (s.enterOutside cause last).host.requestBytes = s.host.requestBytes := by
  simp [State.enterOutside]

@[simp] theorem State.enterOutside_host_compRead (cause : ExitCause) (last : Nat → LastCmd) (s : State) :
    (s.enterOutside cause last).host.compRead = s.host.compRead := by
  simp [State.enterOutside]

@[simp] theorem State.enterOutside_host_noticeRead (cause : ExitCause) (last : Nat → LastCmd) (s : State) :
    (s.enterOutside cause last).host.noticeRead = s.host.noticeRead := by
  simp [State.enterOutside]

@[simp] theorem State.enterOutside_host_viewRead (cause : ExitCause) (last : Nat → LastCmd) (s : State) :
    (s.enterOutside cause last).host.viewRead = s.host.viewRead := by
  simp [State.enterOutside]

@[simp] theorem State.enterOutside_host_findRead (cause : ExitCause) (last : Nat → LastCmd) (s : State) :
    (s.enterOutside cause last).host.findRead = s.host.findRead := by
  simp [State.enterOutside]

@[simp] theorem State.enterOutside_host_auditRead (cause : ExitCause) (last : Nat → LastCmd) (s : State) :
    (s.enterOutside cause last).host.auditRead = s.host.auditRead := by
  simp [State.enterOutside]

@[simp] theorem State.enterOutside_host_eventsLatch (cause : ExitCause) (last : Nat → LastCmd) (s : State) :
    (s.enterOutside cause last).host.eventsLatch = s.host.eventsLatch := by
  simp [State.enterOutside]

@[simp] theorem State.enterOutside_host_commitLatch (cause : ExitCause) (last : Nat → LastCmd) (s : State) :
    (s.enterOutside cause last).host.commitLatch = s.host.commitLatch := by
  simp [State.enterOutside]

theorem State.enterOutside_own (cause : ExitCause) (last : Nat → LastCmd) (s : State) :
    (s.enterOutside cause last).request.own =
      s.request.own.filter (fun o => o.cond == .onBus) := by
  simp [State.enterOutside, State.dropChosen_own]

@[simp] theorem State.exit_member (c : Controller) (cause : ExitCause) :
    (c.exit cause).member = false := rfl

@[simp] theorem State.enterLeaving_bus (reason : LeaveReason) (s : State) :
    (s.enterLeaving reason).bus = s.bus := by
  simp [State.enterLeaving]

@[simp] theorem State.enterLeaving_engine (reason : LeaveReason) (s : State) :
    (s.enterLeaving reason).engine = s.engine := by
  simp [State.enterLeaving]

@[simp] theorem State.enterLeaving_pending (reason : LeaveReason) (s : State) :
    (s.enterLeaving reason).pending = s.pending := by
  simp [State.enterLeaving]

@[simp] theorem State.enterLeaving_request_lrq (reason : LeaveReason) (s : State) :
    (s.enterLeaving reason).request.lrq = s.request.lrq := by
  simp [State.enterLeaving]

@[simp] theorem State.enterLeaving_request_outcomes (reason : LeaveReason) (s : State) :
    (s.enterLeaving reason).request.outcomes = s.request.outcomes := by
  simp [State.enterLeaving]

@[simp] theorem State.enterLeaving_request_cursor (reason : LeaveReason) (s : State) :
    (s.enterLeaving reason).request.cursor = s.request.cursor := by
  simp [State.enterLeaving]

@[simp] theorem State.enterLeaving_host_lastCmd (reason : LeaveReason) (s : State) :
    (s.enterLeaving reason).host.lastCmd = s.host.lastCmd := by
  simp [State.enterLeaving]

@[simp] theorem State.enterLeaving_host_site (reason : LeaveReason) (s : State) :
    (s.enterLeaving reason).host.site = s.host.site := by
  simp [State.enterLeaving]

@[simp] theorem State.enterLeaving_host_mask (reason : LeaveReason) (s : State) :
    (s.enterLeaving reason).host.mask = s.host.mask := by
  simp [State.enterLeaving]

@[simp] theorem State.enterLeaving_host_find (reason : LeaveReason) (s : State) :
    (s.enterLeaving reason).host.find = s.host.find := by
  simp [State.enterLeaving]

@[simp] theorem State.enterLeaving_host_selected (reason : LeaveReason) (s : State) :
    (s.enterLeaving reason).host.selected = s.host.selected := by
  simp [State.enterLeaving]

@[simp] theorem State.enterLeaving_host_frame (reason : LeaveReason) (s : State) :
    (s.enterLeaving reason).host.frame = s.host.frame := by
  simp [State.enterLeaving]

@[simp] theorem State.enterLeaving_host_sdo (reason : LeaveReason) (s : State) :
    (s.enterLeaving reason).host.sdo = s.host.sdo := by
  simp [State.enterLeaving]

@[simp] theorem State.enterLeaving_host_requestBytes (reason : LeaveReason) (s : State) :
    (s.enterLeaving reason).host.requestBytes = s.host.requestBytes := by
  simp [State.enterLeaving]

@[simp] theorem State.enterLeaving_host_compRead (reason : LeaveReason) (s : State) :
    (s.enterLeaving reason).host.compRead = s.host.compRead := by
  simp [State.enterLeaving]

@[simp] theorem State.enterLeaving_host_noticeRead (reason : LeaveReason) (s : State) :
    (s.enterLeaving reason).host.noticeRead = s.host.noticeRead := by
  simp [State.enterLeaving]

@[simp] theorem State.enterLeaving_host_viewRead (reason : LeaveReason) (s : State) :
    (s.enterLeaving reason).host.viewRead = s.host.viewRead := by
  simp [State.enterLeaving]

@[simp] theorem State.enterLeaving_host_findRead (reason : LeaveReason) (s : State) :
    (s.enterLeaving reason).host.findRead = s.host.findRead := by
  simp [State.enterLeaving]

@[simp] theorem State.enterLeaving_host_auditRead (reason : LeaveReason) (s : State) :
    (s.enterLeaving reason).host.auditRead = s.host.auditRead := by
  simp [State.enterLeaving]

@[simp] theorem State.enterLeaving_host_eventsLatch (reason : LeaveReason) (s : State) :
    (s.enterLeaving reason).host.eventsLatch = s.host.eventsLatch := by
  simp [State.enterLeaving]

@[simp] theorem State.enterLeaving_host_commitLatch (reason : LeaveReason) (s : State) :
    (s.enterLeaving reason).host.commitLatch = s.host.commitLatch := by
  simp [State.enterLeaving]

@[simp] theorem State.enterLeaving_control (reason : LeaveReason) (s : State) :
    (s.enterLeaving reason).control = { s.control with
      station := .leaving, phaseKept := s.control.inSyncing, leaveReason := reason,
      syncTimer := .stopped } := by
  simp [State.enterLeaving]

/-- The LEAVE is chosen at the entry into LEAVING, unless an own record is on the bus (R156). -/
theorem State.enterLeaving_own (reason : LeaveReason) (s : State) :
    (s.enterLeaving reason).request.own =
      some ((s.request.own.filter (fun o => o.cond == .onBus)).getD (Own.fresh .leave)) := by
  unfold State.enterLeaving
  extract_lets _ left
  have hs : (left.dropChosen.dropHeld).control.station = .leaving := by simp [left]
  have ho : (left.dropChosen.dropHeld).request.own =
      s.request.own.filter (fun o => o.cond == .onBus) := by simp [left, State.dropChosen_own]
  rcases h : s.request.own.filter (fun o => o.cond == .onBus) with _ | o
  · rw [State.choose_leaving _ hs (ho.trans h)]; simp [h]
  · rw [State.choose_of_own _ (by rw [ho, h]; simp), ho, h]; rfl

@[simp] theorem State.enterLeaving_request_held (reason : LeaveReason) (s : State) :
    (s.enterLeaving reason).request.held = none := by
  unfold State.enterLeaving
  extract_lets _ left
  have hs : (left.dropChosen.dropHeld).control.station = .leaving := by simp [left]
  rcases h : (left.dropChosen.dropHeld).request.own with _ | o
  · rw [State.choose_leaving _ hs h]; simp
  · rw [State.choose_of_own _ (by rw [h]; simp)]; simp

/-! ### Ends of an own record (R153 to R158) -/

@[simp] theorem State.endOwn_bus (outcome : Outcome) (s : State) :
    (s.endOwn outcome).bus = s.bus := by
  unfold State.endOwn; repeat (first | rfl | split)

@[simp] theorem State.endOwn_engine (outcome : Outcome) (s : State) :
    (s.endOwn outcome).engine = s.engine := by
  unfold State.endOwn; repeat (first | rfl | split)

@[simp] theorem State.endOwn_control (outcome : Outcome) (s : State) :
    (s.endOwn outcome).control = s.control := by
  unfold State.endOwn; repeat (first | rfl | split)

@[simp] theorem State.endOwn_pending (outcome : Outcome) (s : State) :
    (s.endOwn outcome).pending = s.pending := by
  unfold State.endOwn; repeat (first | rfl | split)

@[simp] theorem State.endOwn_request_lrq (outcome : Outcome) (s : State) :
    (s.endOwn outcome).request.lrq = s.request.lrq := by
  unfold State.endOwn; repeat (first | rfl | split)

@[simp] theorem State.endOwn_request_held (outcome : Outcome) (s : State) :
    (s.endOwn outcome).request.held = s.request.held := by
  unfold State.endOwn; repeat (first | rfl | split)

@[simp] theorem State.endOwn_request_outcomes (outcome : Outcome) (s : State) :
    (s.endOwn outcome).request.outcomes = s.request.outcomes := by
  unfold State.endOwn; repeat (first | rfl | split)

@[simp] theorem State.endOwn_request_auditDue (outcome : Outcome) (s : State) :
    (s.endOwn outcome).request.auditDue = s.request.auditDue := by
  unfold State.endOwn; repeat (first | rfl | split)

@[simp] theorem State.endOwn_request_cursor (outcome : Outcome) (s : State) :
    (s.endOwn outcome).request.cursor = s.request.cursor := by
  unfold State.endOwn; repeat (first | rfl | split)

@[simp] theorem State.endOwn_host_lastCmd (outcome : Outcome) (s : State) :
    (s.endOwn outcome).host.lastCmd = s.host.lastCmd := by
  unfold State.endOwn; repeat (first | rfl | split)

@[simp] theorem State.endOwn_host_site (outcome : Outcome) (s : State) :
    (s.endOwn outcome).host.site = s.host.site := by
  unfold State.endOwn; repeat (first | rfl | split)

@[simp] theorem State.endOwn_host_mask (outcome : Outcome) (s : State) :
    (s.endOwn outcome).host.mask = s.host.mask := by
  unfold State.endOwn; repeat (first | rfl | split)

@[simp] theorem State.endOwn_host_find (outcome : Outcome) (s : State) :
    (s.endOwn outcome).host.find = s.host.find := by
  unfold State.endOwn; repeat (first | rfl | split)

@[simp] theorem State.resendOrdinary_bus (fault : Bool) (o : Own) (r : Request) (s : State) :
    (s.resendOrdinary fault o r).bus = s.bus := by
  unfold State.resendOrdinary; repeat (first | rfl | split)

@[simp] theorem State.resendOrdinary_engine (fault : Bool) (o : Own) (r : Request) (s : State) :
    (s.resendOrdinary fault o r).engine = s.engine := by
  unfold State.resendOrdinary; repeat (first | rfl | split)

@[simp] theorem State.resendOrdinary_control (fault : Bool) (o : Own) (r : Request) (s : State) :
    (s.resendOrdinary fault o r).control = s.control := by
  unfold State.resendOrdinary; repeat (first | rfl | split)

@[simp] theorem State.resendOrdinary_pending (fault : Bool) (o : Own) (r : Request) (s : State) :
    (s.resendOrdinary fault o r).pending = s.pending := by
  unfold State.resendOrdinary; repeat (first | rfl | split)

@[simp] theorem State.resendOrdinary_request_lrq (fault : Bool) (o : Own) (r : Request) (s : State) :
    (s.resendOrdinary fault o r).request.lrq = s.request.lrq := by
  unfold State.resendOrdinary; repeat (first | rfl | split)

@[simp] theorem State.resendOrdinary_request_outcomes (fault : Bool) (o : Own) (r : Request) (s : State) :
    (s.resendOrdinary fault o r).request.outcomes = s.request.outcomes := by
  unfold State.resendOrdinary; repeat (first | rfl | split)

@[simp] theorem State.resendOrdinary_request_auditDue (fault : Bool) (o : Own) (r : Request) (s : State) :
    (s.resendOrdinary fault o r).request.auditDue = s.request.auditDue := by
  unfold State.resendOrdinary; repeat (first | rfl | split)

@[simp] theorem State.resendOrdinary_request_cursor (fault : Bool) (o : Own) (r : Request) (s : State) :
    (s.resendOrdinary fault o r).request.cursor = s.request.cursor := by
  unfold State.resendOrdinary; repeat (first | rfl | split)

@[simp] theorem State.resendOrdinary_host_lastCmd (fault : Bool) (o : Own) (r : Request) (s : State) :
    (s.resendOrdinary fault o r).host.lastCmd = s.host.lastCmd := by
  unfold State.resendOrdinary; repeat (first | rfl | split)

@[simp] theorem State.resendOrdinary_host_site (fault : Bool) (o : Own) (r : Request) (s : State) :
    (s.resendOrdinary fault o r).host.site = s.host.site := by
  unfold State.resendOrdinary; repeat (first | rfl | split)

@[simp] theorem State.resendOrdinary_host_mask (fault : Bool) (o : Own) (r : Request) (s : State) :
    (s.resendOrdinary fault o r).host.mask = s.host.mask := by
  unfold State.resendOrdinary; repeat (first | rfl | split)

@[simp] theorem State.resendOrdinary_host_find (fault : Bool) (o : Own) (r : Request) (s : State) :
    (s.resendOrdinary fault o r).host.find = s.host.find := by
  unfold State.resendOrdinary; repeat (first | rfl | split)

@[simp] theorem State.abortOwn_pending (fault : Bool) (s : State) :
    (s.abortOwn fault).pending = s.pending := by
  unfold State.abortOwn; dsimp only; repeat (first | rfl | (focus (simp; done)) | split)

@[simp] theorem State.abortOwn_host_site (fault : Bool) (s : State) :
    (s.abortOwn fault).host.site = s.host.site := by
  unfold State.abortOwn; dsimp only; repeat (first | rfl | (focus (simp; done)) | split)

@[simp] theorem State.abortOwn_host_mask (fault : Bool) (s : State) :
    (s.abortOwn fault).host.mask = s.host.mask := by
  unfold State.abortOwn; dsimp only; repeat (first | rfl | (focus (simp; done)) | split)

@[simp] theorem State.abortOwn_host_find (fault : Bool) (s : State) :
    (s.abortOwn fault).host.find = s.host.find := by
  unfold State.abortOwn; dsimp only; repeat (first | rfl | (focus (simp; done)) | split)

/-- An abort leaves the committed state of the bus unit at a station that stays: the exits of a
JOIN or LEAVE given up are the only changes (R71, R112, R115). -/
theorem State.abortOwn_bus (fault : Bool) (s : State) :
    (s.abortOwn fault).bus = s.bus ∨
      ((s.abortOwn fault).bus = s.bus.exit ∧ (s.abortOwn fault).control.station = .outside) := by
  unfold State.abortOwn; dsimp only
  repeat (first
    | exact Or.inl rfl
    | (focus (left; simp; done))
    | (focus (right; simp [Controller.exit]; done))
    | split)

theorem State.abortOwn_engine (fault : Bool) (s : State) :
    (s.abortOwn fault).engine = s.engine ∨ (s.abortOwn fault).engine = s.engine.exit := by
  unfold State.abortOwn; dsimp only
  repeat (first
    | exact Or.inl rfl
    | (focus (left; simp; done))
    | (focus (right; simp; done))
    | split)

/-! ### An arriving entry (R25, R53, R55) -/

@[simp] theorem State.endScan_bus (code : FindCode) (scan : Scan) (commit : CommitNo) (s : State) :
    (s.endScan code scan commit).bus = s.bus := by
  rfl

@[simp] theorem State.endScan_request (code : FindCode) (scan : Scan) (commit : CommitNo) (s : State) :
    (s.endScan code scan commit).request = s.request := by
  rfl

@[simp] theorem State.endScan_control (code : FindCode) (scan : Scan) (commit : CommitNo) (s : State) :
    (s.endScan code scan commit).control = s.control := by
  rfl

@[simp] theorem State.endScan_pending (code : FindCode) (scan : Scan) (commit : CommitNo) (s : State) :
    (s.endScan code scan commit).pending = s.pending := by
  rfl

@[simp] theorem State.endScan_engine_pools (code : FindCode) (scan : Scan) (commit : CommitNo) (s : State) :
    (s.endScan code scan commit).engine.pools = s.engine.pools := by
  rfl

@[simp] theorem State.endScan_engine_slots (code : FindCode) (scan : Scan) (commit : CommitNo) (s : State) :
    (s.endScan code scan commit).engine.slots = s.engine.slots := by
  rfl

@[simp] theorem State.endScan_engine_digest (code : FindCode) (scan : Scan) (commit : CommitNo) (s : State) :
    (s.endScan code scan commit).engine.digest = s.engine.digest := by
  rfl

@[simp] theorem State.endScan_engine_history (code : FindCode) (scan : Scan) (commit : CommitNo) (s : State) :
    (s.endScan code scan commit).engine.history = s.engine.history := by
  rfl

@[simp] theorem State.endScan_engine_historyRunning (code : FindCode) (scan : Scan) (commit : CommitNo) (s : State) :
    (s.endScan code scan commit).engine.historyRunning = s.engine.historyRunning := by
  rfl

@[simp] theorem State.endScan_engine_commit (code : FindCode) (scan : Scan) (commit : CommitNo) (s : State) :
    (s.endScan code scan commit).engine.commit = s.engine.commit := by
  rfl

@[simp] theorem State.endScan_engine_stale (code : FindCode) (scan : Scan) (commit : CommitNo) (s : State) :
    (s.endScan code scan commit).engine.stale = s.engine.stale := by
  rfl

@[simp] theorem State.endScan_engine_current (code : FindCode) (scan : Scan) (commit : CommitNo) (s : State) :
    (s.endScan code scan commit).engine.current = s.engine.current := by
  rfl

@[simp] theorem State.endScan_engine_horizon (code : FindCode) (scan : Scan) (commit : CommitNo) (s : State) :
    (s.endScan code scan commit).engine.horizon = s.engine.horizon := by
  rfl

@[simp] theorem State.endScan_engine_installed (code : FindCode) (scan : Scan) (commit : CommitNo) (s : State) :
    (s.endScan code scan commit).engine.installed = s.engine.installed := by
  rfl

@[simp] theorem State.endScan_engine_notices (code : FindCode) (scan : Scan) (commit : CommitNo) (s : State) :
    (s.endScan code scan commit).engine.notices = s.engine.notices := by
  rfl

@[simp] theorem State.endScan_engine_auditRecord (code : FindCode) (scan : Scan) (commit : CommitNo) (s : State) :
    (s.endScan code scan commit).engine.auditRecord = s.engine.auditRecord := by
  rfl

@[simp] theorem State.endScan_engine_viewPending (code : FindCode) (scan : Scan) (commit : CommitNo) (s : State) :
    (s.endScan code scan commit).engine.viewPending = s.engine.viewPending := by
  rfl

@[simp] theorem State.endScan_engine_viewBuffer (code : FindCode) (scan : Scan) (commit : CommitNo) (s : State) :
    (s.endScan code scan commit).engine.viewBuffer = s.engine.viewBuffer := by
  rfl

@[simp] theorem State.endScan_host_lastCmd (code : FindCode) (scan : Scan) (commit : CommitNo) (s : State) :
    (s.endScan code scan commit).host.lastCmd = s.host.lastCmd := by
  rfl

@[simp] theorem State.endScan_host_site (code : FindCode) (scan : Scan) (commit : CommitNo) (s : State) :
    (s.endScan code scan commit).host.site = s.host.site := by
  rfl

@[simp] theorem State.endScan_host_mask (code : FindCode) (scan : Scan) (commit : CommitNo) (s : State) :
    (s.endScan code scan commit).host.mask = s.host.mask := by
  rfl

@[simp] theorem State.endScan_host_find (code : FindCode) (scan : Scan) (commit : CommitNo) (s : State) :
    (s.endScan code scan commit).host.find = s.host.find := by
  rfl

@[simp] theorem State.yieldScan_bus (s : State) :
    (s.yieldScan).bus = s.bus := by
  unfold State.yieldScan; repeat (first | rfl | split)

@[simp] theorem State.yieldScan_request (s : State) :
    (s.yieldScan).request = s.request := by
  unfold State.yieldScan; repeat (first | rfl | split)

@[simp] theorem State.yieldScan_control (s : State) :
    (s.yieldScan).control = s.control := by
  unfold State.yieldScan; repeat (first | rfl | split)

@[simp] theorem State.yieldScan_pending (s : State) :
    (s.yieldScan).pending = s.pending := by
  unfold State.yieldScan; repeat (first | rfl | split)

@[simp] theorem State.yieldScan_engine_pools (s : State) :
    (s.yieldScan).engine.pools = s.engine.pools := by
  unfold State.yieldScan; repeat (first | rfl | split)

@[simp] theorem State.yieldScan_engine_slots (s : State) :
    (s.yieldScan).engine.slots = s.engine.slots := by
  unfold State.yieldScan; repeat (first | rfl | split)

@[simp] theorem State.yieldScan_engine_digest (s : State) :
    (s.yieldScan).engine.digest = s.engine.digest := by
  unfold State.yieldScan; repeat (first | rfl | split)

@[simp] theorem State.yieldScan_engine_history (s : State) :
    (s.yieldScan).engine.history = s.engine.history := by
  unfold State.yieldScan; repeat (first | rfl | split)

@[simp] theorem State.yieldScan_engine_historyRunning (s : State) :
    (s.yieldScan).engine.historyRunning = s.engine.historyRunning := by
  unfold State.yieldScan; repeat (first | rfl | split)

@[simp] theorem State.yieldScan_engine_commit (s : State) :
    (s.yieldScan).engine.commit = s.engine.commit := by
  unfold State.yieldScan; repeat (first | rfl | split)

@[simp] theorem State.yieldScan_engine_stale (s : State) :
    (s.yieldScan).engine.stale = s.engine.stale := by
  unfold State.yieldScan; repeat (first | rfl | split)

@[simp] theorem State.yieldScan_engine_current (s : State) :
    (s.yieldScan).engine.current = s.engine.current := by
  unfold State.yieldScan; repeat (first | rfl | split)

@[simp] theorem State.yieldScan_engine_horizon (s : State) :
    (s.yieldScan).engine.horizon = s.engine.horizon := by
  unfold State.yieldScan; repeat (first | rfl | split)

@[simp] theorem State.yieldScan_engine_installed (s : State) :
    (s.yieldScan).engine.installed = s.engine.installed := by
  unfold State.yieldScan; repeat (first | rfl | split)

@[simp] theorem State.yieldScan_engine_notices (s : State) :
    (s.yieldScan).engine.notices = s.engine.notices := by
  unfold State.yieldScan; repeat (first | rfl | split)

@[simp] theorem State.yieldScan_engine_auditRecord (s : State) :
    (s.yieldScan).engine.auditRecord = s.engine.auditRecord := by
  unfold State.yieldScan; repeat (first | rfl | split)

@[simp] theorem State.yieldScan_engine_viewPending (s : State) :
    (s.yieldScan).engine.viewPending = s.engine.viewPending := by
  unfold State.yieldScan; repeat (first | rfl | split)

@[simp] theorem State.yieldScan_engine_viewBuffer (s : State) :
    (s.yieldScan).engine.viewBuffer = s.engine.viewBuffer := by
  unfold State.yieldScan; repeat (first | rfl | split)

@[simp] theorem State.yieldScan_host_lastCmd (s : State) :
    (s.yieldScan).host.lastCmd = s.host.lastCmd := by
  unfold State.yieldScan; repeat (first | rfl | split)

@[simp] theorem State.yieldScan_host_site (s : State) :
    (s.yieldScan).host.site = s.host.site := by
  unfold State.yieldScan; repeat (first | rfl | split)

@[simp] theorem State.yieldScan_host_mask (s : State) :
    (s.yieldScan).host.mask = s.host.mask := by
  unfold State.yieldScan; repeat (first | rfl | split)

@[simp] theorem State.yieldScan_host_find (s : State) :
    (s.yieldScan).host.find = s.host.find := by
  unfold State.yieldScan; repeat (first | rfl | split)

@[simp] theorem State.discardBuilt_bus (s : State) :
    (s.discardBuilt).bus = s.bus := by
  unfold State.discardBuilt; repeat (first | rfl | split)

@[simp] theorem State.discardBuilt_engine (s : State) :
    (s.discardBuilt).engine = s.engine := by
  unfold State.discardBuilt; repeat (first | rfl | split)

@[simp] theorem State.discardBuilt_control (s : State) :
    (s.discardBuilt).control = s.control := by
  unfold State.discardBuilt; repeat (first | rfl | split)

@[simp] theorem State.discardBuilt_host (s : State) :
    (s.discardBuilt).host = s.host := by
  unfold State.discardBuilt; repeat (first | rfl | split)

@[simp] theorem State.discardBuilt_pending (s : State) :
    (s.discardBuilt).pending = s.pending := by
  unfold State.discardBuilt; repeat (first | rfl | split)

@[simp] theorem State.discardBuilt_request_lrq (s : State) :
    (s.discardBuilt).request.lrq = s.request.lrq := by
  unfold State.discardBuilt; repeat (first | rfl | split)

@[simp] theorem State.discardBuilt_request_held (s : State) :
    (s.discardBuilt).request.held = s.request.held := by
  unfold State.discardBuilt; repeat (first | rfl | split)

@[simp] theorem State.discardBuilt_request_outcomes (s : State) :
    (s.discardBuilt).request.outcomes = s.request.outcomes := by
  unfold State.discardBuilt; repeat (first | rfl | split)

@[simp] theorem State.discardBuilt_request_completions (s : State) :
    (s.discardBuilt).request.completions = s.request.completions := by
  unfold State.discardBuilt; repeat (first | rfl | split)

@[simp] theorem State.discardBuilt_request_reserved (s : State) :
    (s.discardBuilt).request.reserved = s.request.reserved := by
  unfold State.discardBuilt; repeat (first | rfl | split)

@[simp] theorem State.discardBuilt_request_auditDue (s : State) :
    (s.discardBuilt).request.auditDue = s.request.auditDue := by
  unfold State.discardBuilt; repeat (first | rfl | split)

@[simp] theorem State.discardBuilt_request_cursor (s : State) :
    (s.discardBuilt).request.cursor = s.request.cursor := by
  unfold State.discardBuilt; repeat (first | rfl | split)

@[simp] theorem State.arrive_control (e : ApplyEntry) (s : State) :
    (s.arrive e).control = s.control := by
  simp [State.arrive]

@[simp] theorem State.arrive_pending (e : ApplyEntry) (s : State) :
    (s.arrive e).pending = s.pending := by
  simp [State.arrive]

@[simp] theorem State.arrive_bus_station (e : ApplyEntry) (s : State) :
    (s.arrive e).bus.station = s.bus.station := by
  simp [State.arrive]

@[simp] theorem State.arrive_bus_locked (e : ApplyEntry) (s : State) :
    (s.arrive e).bus.locked = s.bus.locked := by
  simp [State.arrive]

@[simp] theorem State.arrive_bus_inStep (e : ApplyEntry) (s : State) :
    (s.arrive e).bus.inStep = s.bus.inStep := by
  simp [State.arrive]

@[simp] theorem State.arrive_bus_turn (e : ApplyEntry) (s : State) :
    (s.arrive e).bus.turn = s.bus.turn := by
  simp [State.arrive]

@[simp] theorem State.arrive_bus_openList (e : ApplyEntry) (s : State) :
    (s.arrive e).bus.openList = s.bus.openList := by
  simp [State.arrive]

@[simp] theorem State.arrive_bus_inTransfer (e : ApplyEntry) (s : State) :
    (s.arrive e).bus.inTransfer = s.bus.inTransfer := by
  simp [State.arrive]

@[simp] theorem State.arrive_bus_window (e : ApplyEntry) (s : State) :
    (s.arrive e).bus.window = s.bus.window := by
  simp [State.arrive]

@[simp] theorem State.arrive_bus_commit (e : ApplyEntry) (s : State) :
    (s.arrive e).bus.commit = s.bus.commit := by
  simp [State.arrive]

@[simp] theorem State.arrive_bus_roster (e : ApplyEntry) (s : State) :
    (s.arrive e).bus.roster = s.bus.roster := by
  simp [State.arrive]

@[simp] theorem State.arrive_bus_syncList (e : ApplyEntry) (s : State) :
    (s.arrive e).bus.syncList = s.bus.syncList := by
  simp [State.arrive]

@[simp] theorem State.arrive_bus_joinCommit (e : ApplyEntry) (s : State) :
    (s.arrive e).bus.joinCommit = s.bus.joinCommit := by
  simp [State.arrive]

@[simp] theorem State.arrive_bus_restart (e : ApplyEntry) (s : State) :
    (s.arrive e).bus.restart = s.bus.restart := by
  simp [State.arrive]

@[simp] theorem State.arrive_bus_mrsDrive (e : ApplyEntry) (s : State) :
    (s.arrive e).bus.mrsDrive = s.bus.mrsDrive := by
  simp [State.arrive]

@[simp] theorem State.arrive_bus_priIn (e : ApplyEntry) (s : State) :
    (s.arrive e).bus.priIn = s.bus.priIn := by
  simp [State.arrive]

@[simp] theorem State.arrive_bus_tracker (e : ApplyEntry) (s : State) :
    (s.arrive e).bus.tracker = s.bus.tracker := by
  simp [State.arrive]

@[simp] theorem State.arrive_request_lrq (e : ApplyEntry) (s : State) :
    (s.arrive e).request.lrq = s.request.lrq := by
  simp [State.arrive]

@[simp] theorem State.arrive_request_held (e : ApplyEntry) (s : State) :
    (s.arrive e).request.held = s.request.held := by
  simp [State.arrive]

@[simp] theorem State.arrive_request_outcomes (e : ApplyEntry) (s : State) :
    (s.arrive e).request.outcomes = s.request.outcomes := by
  simp [State.arrive]

@[simp] theorem State.arrive_request_completions (e : ApplyEntry) (s : State) :
    (s.arrive e).request.completions = s.request.completions := by
  simp [State.arrive]

@[simp] theorem State.arrive_request_reserved (e : ApplyEntry) (s : State) :
    (s.arrive e).request.reserved = s.request.reserved := by
  simp [State.arrive]

@[simp] theorem State.arrive_request_auditDue (e : ApplyEntry) (s : State) :
    (s.arrive e).request.auditDue = s.request.auditDue := by
  simp [State.arrive]

@[simp] theorem State.arrive_request_cursor (e : ApplyEntry) (s : State) :
    (s.arrive e).request.cursor = s.request.cursor := by
  simp [State.arrive]

@[simp] theorem State.arrive_engine_pools (e : ApplyEntry) (s : State) :
    (s.arrive e).engine.pools = s.engine.pools := by
  simp [State.arrive]

@[simp] theorem State.arrive_engine_slots (e : ApplyEntry) (s : State) :
    (s.arrive e).engine.slots = s.engine.slots := by
  simp [State.arrive]

@[simp] theorem State.arrive_engine_digest (e : ApplyEntry) (s : State) :
    (s.arrive e).engine.digest = s.engine.digest := by
  simp [State.arrive]

@[simp] theorem State.arrive_engine_history (e : ApplyEntry) (s : State) :
    (s.arrive e).engine.history = s.engine.history := by
  simp [State.arrive]

@[simp] theorem State.arrive_engine_historyRunning (e : ApplyEntry) (s : State) :
    (s.arrive e).engine.historyRunning = s.engine.historyRunning := by
  simp [State.arrive]

@[simp] theorem State.arrive_engine_commit (e : ApplyEntry) (s : State) :
    (s.arrive e).engine.commit = s.engine.commit := by
  simp [State.arrive]

@[simp] theorem State.arrive_engine_stale (e : ApplyEntry) (s : State) :
    (s.arrive e).engine.stale = s.engine.stale := by
  simp [State.arrive]

@[simp] theorem State.arrive_engine_current (e : ApplyEntry) (s : State) :
    (s.arrive e).engine.current = s.engine.current := by
  simp [State.arrive]

@[simp] theorem State.arrive_engine_horizon (e : ApplyEntry) (s : State) :
    (s.arrive e).engine.horizon = s.engine.horizon := by
  simp [State.arrive]

@[simp] theorem State.arrive_engine_installed (e : ApplyEntry) (s : State) :
    (s.arrive e).engine.installed = s.engine.installed := by
  simp [State.arrive]

@[simp] theorem State.arrive_engine_notices (e : ApplyEntry) (s : State) :
    (s.arrive e).engine.notices = s.engine.notices := by
  simp [State.arrive]

@[simp] theorem State.arrive_engine_auditRecord (e : ApplyEntry) (s : State) :
    (s.arrive e).engine.auditRecord = s.engine.auditRecord := by
  simp [State.arrive]

@[simp] theorem State.arrive_engine_viewPending (e : ApplyEntry) (s : State) :
    (s.arrive e).engine.viewPending = s.engine.viewPending := by
  simp [State.arrive]

@[simp] theorem State.arrive_engine_viewBuffer (e : ApplyEntry) (s : State) :
    (s.arrive e).engine.viewBuffer = s.engine.viewBuffer := by
  simp [State.arrive]

@[simp] theorem State.arrive_host_lastCmd (e : ApplyEntry) (s : State) :
    (s.arrive e).host.lastCmd = s.host.lastCmd := by
  simp [State.arrive]

@[simp] theorem State.arrive_host_site (e : ApplyEntry) (s : State) :
    (s.arrive e).host.site = s.host.site := by
  simp [State.arrive]

@[simp] theorem State.arrive_host_mask (e : ApplyEntry) (s : State) :
    (s.arrive e).host.mask = s.host.mask := by
  simp [State.arrive]

@[simp] theorem State.arrive_host_find (e : ApplyEntry) (s : State) :
    (s.arrive e).host.find = s.host.find := by
  simp [State.arrive]

@[simp] theorem State.arrive_bus_applyQueue (e : ApplyEntry) (s : State) :
    (s.arrive e).bus.applyQueue = s.bus.applyQueue ++ [e] := by simp [State.arrive]

end Sys2Proof.Machine
end

