-- ==== Sys2Proof/Laws/Host.lean ====
section
/-!
SUPPORT. What a data byte of the host port does: the frame it reaches, the effect of a write at
each address (Table 39), and what a write and each port read leave as it was.
-/
namespace Sys2Proof.Machine

/-! ### The frame a byte reaches (R179) -/

/-- The request bytes in effect at a data byte. -/
theorem State.reach_requestBytes (read : Bool) (a : Addr) (s : State) :
    (s.reach read a).host.requestBytes =
      if s.host.frame = some ⟨read, a⟩ then s.host.requestBytes else [] := by
  unfold State.reach; split <;> rfl

/-! ### The effect of a write at each address (R179, Table 39) -/

theorem State.writeEffect_site (high : Bool) (value : Byte) (s : State) :
    s.writeEffect (if high then 0x07#7 else 0x06#7) value = s.siteByte high value := by
  cases high <;> rfl

@[simp] theorem State.writeEffect_control (value : Byte) (s : State) :
    s.writeEffect 0x08#7 value = s.command value := rfl

theorem State.writeEffect_events (high : Bool) (value : Byte) (s : State) :
    s.writeEffect (if high then 0x0D#7 else 0x0C#7) value = s.eventsByte high value := by
  cases high <;> rfl

theorem State.writeEffect_mask (high : Bool) (value : Byte) (s : State) :
    s.writeEffect (if high then 0x0F#7 else 0x0E#7) value = s.maskByte high value := by
  cases high <;> rfl

@[simp] theorem State.writeEffect_request (value : Byte) (s : State) :
    s.writeEffect 0x12#7 value = s.requestByte value := rfl

@[simp] theorem State.writeEffect_viewSel (value : Byte) (s : State) :
    s.writeEffect 0x15#7 value = s.selectView value := rfl

@[simp] theorem State.writeEffect_findGo (value : Byte) (s : State) :
    s.writeEffect 0x1C#7 value = s.findGo := rfl

@[simp] theorem State.command_start (s : State) : s.command 0x01#8 = s.commandStart := rfl

@[simp] theorem State.command_leave (s : State) : s.command 0x02#8 = s.commandLeave := rfl

@[simp] theorem State.command_withdraw (s : State) : s.command 0x03#8 = s.commandWithdraw := rfl

@[simp] theorem State.command_reinit (s : State) : s.command 0x04#8 = s.softReset := rfl

theorem State.command_other (value : Byte) (s : State) (h1 : value ≠ 0x01#8)
    (h2 : value ≠ 0x02#8) (h3 : value ≠ 0x03#8) (h4 : value ≠ 0x04#8) :
    s.command value = s.setLastCmd ⟨.other, false, 0⟩ := by
  simp [State.command, h1, h2, h3, h4]

/-- What a write leaves is what its effect left, but for the frame and SDO. -/
theorem State.write_eq (a : Addr) (value : Byte) (s : State) :
    s.write a value = ((s.reach false a).writeEffect a value).moved false a 0x00#8 := rfl

/-- After a write the current address has moved on and SDO has carried 00h (R179). -/
@[simp] theorem State.write_frame (a : Addr) (value : Byte) (s : State) :
    (s.write a value).host.frame = some ⟨false, nextAddr a⟩ := rfl

@[simp] theorem State.write_sdo (a : Addr) (value : Byte) (s : State) :
    (s.write a value).host.sdo = some 0x00#8 := rfl

/-! ### siteByte -/

@[simp] theorem State.siteByte_bus (high : Bool) (value : Byte) (s : State) :
    (s.siteByte high value).bus = s.bus := by
  unfold State.siteByte; repeat (first | rfl | split)

@[simp] theorem State.siteByte_engine (high : Bool) (value : Byte) (s : State) :
    (s.siteByte high value).engine = s.engine := by
  unfold State.siteByte; repeat (first | rfl | split)

@[simp] theorem State.siteByte_request (high : Bool) (value : Byte) (s : State) :
    (s.siteByte high value).request = s.request := by
  unfold State.siteByte; repeat (first | rfl | split)

@[simp] theorem State.siteByte_control (high : Bool) (value : Byte) (s : State) :
    (s.siteByte high value).control = s.control := by
  unfold State.siteByte; repeat (first | rfl | split)

@[simp] theorem State.siteByte_pending (high : Bool) (value : Byte) (s : State) :
    (s.siteByte high value).pending = s.pending := by
  unfold State.siteByte; repeat (first | rfl | split)

@[simp] theorem State.siteByte_host_events (high : Bool) (value : Byte) (s : State) :
    (s.siteByte high value).host.events = s.host.events := by
  unfold State.siteByte; repeat (first | rfl | split)

@[simp] theorem State.siteByte_host_mask (high : Bool) (value : Byte) (s : State) :
    (s.siteByte high value).host.mask = s.host.mask := by
  unfold State.siteByte; repeat (first | rfl | split)

@[simp] theorem State.siteByte_host_lastCmd (high : Bool) (value : Byte) (s : State) :
    (s.siteByte high value).host.lastCmd = s.host.lastCmd := by
  unfold State.siteByte; repeat (first | rfl | split)

@[simp] theorem State.siteByte_host_find (high : Bool) (value : Byte) (s : State) :
    (s.siteByte high value).host.find = s.host.find := by
  unfold State.siteByte; repeat (first | rfl | split)

@[simp] theorem State.siteByte_host_selected (high : Bool) (value : Byte) (s : State) :
    (s.siteByte high value).host.selected = s.host.selected := by
  unfold State.siteByte; repeat (first | rfl | split)

@[simp] theorem State.siteByte_host_frame (high : Bool) (value : Byte) (s : State) :
    (s.siteByte high value).host.frame = s.host.frame := by
  unfold State.siteByte; repeat (first | rfl | split)

@[simp] theorem State.siteByte_host_sdo (high : Bool) (value : Byte) (s : State) :
    (s.siteByte high value).host.sdo = s.host.sdo := by
  unfold State.siteByte; repeat (first | rfl | split)

@[simp] theorem State.siteByte_host_requestBytes (high : Bool) (value : Byte) (s : State) :
    (s.siteByte high value).host.requestBytes = s.host.requestBytes := by
  unfold State.siteByte; repeat (first | rfl | split)

@[simp] theorem State.siteByte_host_compRead (high : Bool) (value : Byte) (s : State) :
    (s.siteByte high value).host.compRead = s.host.compRead := by
  unfold State.siteByte; repeat (first | rfl | split)

@[simp] theorem State.siteByte_host_noticeRead (high : Bool) (value : Byte) (s : State) :
    (s.siteByte high value).host.noticeRead = s.host.noticeRead := by
  unfold State.siteByte; repeat (first | rfl | split)

@[simp] theorem State.siteByte_host_viewRead (high : Bool) (value : Byte) (s : State) :
    (s.siteByte high value).host.viewRead = s.host.viewRead := by
  unfold State.siteByte; repeat (first | rfl | split)

@[simp] theorem State.siteByte_host_findRead (high : Bool) (value : Byte) (s : State) :
    (s.siteByte high value).host.findRead = s.host.findRead := by
  unfold State.siteByte; repeat (first | rfl | split)

@[simp] theorem State.siteByte_host_auditRead (high : Bool) (value : Byte) (s : State) :
    (s.siteByte high value).host.auditRead = s.host.auditRead := by
  unfold State.siteByte; repeat (first | rfl | split)

@[simp] theorem State.siteByte_host_eventsLatch (high : Bool) (value : Byte) (s : State) :
    (s.siteByte high value).host.eventsLatch = s.host.eventsLatch := by
  unfold State.siteByte; repeat (first | rfl | split)

@[simp] theorem State.siteByte_host_commitLatch (high : Bool) (value : Byte) (s : State) :
    (s.siteByte high value).host.commitLatch = s.host.commitLatch := by
  unfold State.siteByte; repeat (first | rfl | split)

/-! ### eventsByte -/

@[simp] theorem State.eventsByte_bus (high : Bool) (value : Byte) (s : State) :
    (s.eventsByte high value).bus = s.bus := by
  unfold State.eventsByte; repeat (first | rfl | split)

@[simp] theorem State.eventsByte_engine (high : Bool) (value : Byte) (s : State) :
    (s.eventsByte high value).engine = s.engine := by
  unfold State.eventsByte; repeat (first | rfl | split)

@[simp] theorem State.eventsByte_request (high : Bool) (value : Byte) (s : State) :
    (s.eventsByte high value).request = s.request := by
  unfold State.eventsByte; repeat (first | rfl | split)

@[simp] theorem State.eventsByte_control (high : Bool) (value : Byte) (s : State) :
    (s.eventsByte high value).control = s.control := by
  unfold State.eventsByte; repeat (first | rfl | split)

@[simp] theorem State.eventsByte_pending (high : Bool) (value : Byte) (s : State) :
    (s.eventsByte high value).pending = s.pending := by
  unfold State.eventsByte; repeat (first | rfl | split)

@[simp] theorem State.eventsByte_host_site (high : Bool) (value : Byte) (s : State) :
    (s.eventsByte high value).host.site = s.host.site := by
  unfold State.eventsByte; repeat (first | rfl | split)

@[simp] theorem State.eventsByte_host_mask (high : Bool) (value : Byte) (s : State) :
    (s.eventsByte high value).host.mask = s.host.mask := by
  unfold State.eventsByte; repeat (first | rfl | split)

@[simp] theorem State.eventsByte_host_lastCmd (high : Bool) (value : Byte) (s : State) :
    (s.eventsByte high value).host.lastCmd = s.host.lastCmd := by
  unfold State.eventsByte; repeat (first | rfl | split)

@[simp] theorem State.eventsByte_host_find (high : Bool) (value : Byte) (s : State) :
    (s.eventsByte high value).host.find = s.host.find := by
  unfold State.eventsByte; repeat (first | rfl | split)

@[simp] theorem State.eventsByte_host_selected (high : Bool) (value : Byte) (s : State) :
    (s.eventsByte high value).host.selected = s.host.selected := by
  unfold State.eventsByte; repeat (first | rfl | split)

@[simp] theorem State.eventsByte_host_frame (high : Bool) (value : Byte) (s : State) :
    (s.eventsByte high value).host.frame = s.host.frame := by
  unfold State.eventsByte; repeat (first | rfl | split)

@[simp] theorem State.eventsByte_host_sdo (high : Bool) (value : Byte) (s : State) :
    (s.eventsByte high value).host.sdo = s.host.sdo := by
  unfold State.eventsByte; repeat (first | rfl | split)

@[simp] theorem State.eventsByte_host_requestBytes (high : Bool) (value : Byte) (s : State) :
    (s.eventsByte high value).host.requestBytes = s.host.requestBytes := by
  unfold State.eventsByte; repeat (first | rfl | split)

@[simp] theorem State.eventsByte_host_compRead (high : Bool) (value : Byte) (s : State) :
    (s.eventsByte high value).host.compRead = s.host.compRead := by
  unfold State.eventsByte; repeat (first | rfl | split)

@[simp] theorem State.eventsByte_host_noticeRead (high : Bool) (value : Byte) (s : State) :
    (s.eventsByte high value).host.noticeRead = s.host.noticeRead := by
  unfold State.eventsByte; repeat (first | rfl | split)

@[simp] theorem State.eventsByte_host_viewRead (high : Bool) (value : Byte) (s : State) :
    (s.eventsByte high value).host.viewRead = s.host.viewRead := by
  unfold State.eventsByte; repeat (first | rfl | split)

@[simp] theorem State.eventsByte_host_findRead (high : Bool) (value : Byte) (s : State) :
    (s.eventsByte high value).host.findRead = s.host.findRead := by
  unfold State.eventsByte; repeat (first | rfl | split)

@[simp] theorem State.eventsByte_host_auditRead (high : Bool) (value : Byte) (s : State) :
    (s.eventsByte high value).host.auditRead = s.host.auditRead := by
  unfold State.eventsByte; repeat (first | rfl | split)

@[simp] theorem State.eventsByte_host_eventsLatch (high : Bool) (value : Byte) (s : State) :
    (s.eventsByte high value).host.eventsLatch = s.host.eventsLatch := by
  unfold State.eventsByte; repeat (first | rfl | split)

@[simp] theorem State.eventsByte_host_commitLatch (high : Bool) (value : Byte) (s : State) :
    (s.eventsByte high value).host.commitLatch = s.host.commitLatch := by
  unfold State.eventsByte; repeat (first | rfl | split)

/-! ### maskByte -/

@[simp] theorem State.maskByte_bus (high : Bool) (value : Byte) (s : State) :
    (s.maskByte high value).bus = s.bus := by
  unfold State.maskByte; repeat (first | rfl | split)

@[simp] theorem State.maskByte_engine (high : Bool) (value : Byte) (s : State) :
    (s.maskByte high value).engine = s.engine := by
  unfold State.maskByte; repeat (first | rfl | split)

@[simp] theorem State.maskByte_request (high : Bool) (value : Byte) (s : State) :
    (s.maskByte high value).request = s.request := by
  unfold State.maskByte; repeat (first | rfl | split)

@[simp] theorem State.maskByte_control (high : Bool) (value : Byte) (s : State) :
    (s.maskByte high value).control = s.control := by
  unfold State.maskByte; repeat (first | rfl | split)

@[simp] theorem State.maskByte_pending (high : Bool) (value : Byte) (s : State) :
    (s.maskByte high value).pending = s.pending := by
  unfold State.maskByte; repeat (first | rfl | split)

@[simp] theorem State.maskByte_host_site (high : Bool) (value : Byte) (s : State) :
    (s.maskByte high value).host.site = s.host.site := by
  unfold State.maskByte; repeat (first | rfl | split)

@[simp] theorem State.maskByte_host_events (high : Bool) (value : Byte) (s : State) :
    (s.maskByte high value).host.events = s.host.events := by
  unfold State.maskByte; repeat (first | rfl | split)

@[simp] theorem State.maskByte_host_lastCmd (high : Bool) (value : Byte) (s : State) :
    (s.maskByte high value).host.lastCmd = s.host.lastCmd := by
  unfold State.maskByte; repeat (first | rfl | split)

@[simp] theorem State.maskByte_host_find (high : Bool) (value : Byte) (s : State) :
    (s.maskByte high value).host.find = s.host.find := by
  unfold State.maskByte; repeat (first | rfl | split)

@[simp] theorem State.maskByte_host_selected (high : Bool) (value : Byte) (s : State) :
    (s.maskByte high value).host.selected = s.host.selected := by
  unfold State.maskByte; repeat (first | rfl | split)

@[simp] theorem State.maskByte_host_frame (high : Bool) (value : Byte) (s : State) :
    (s.maskByte high value).host.frame = s.host.frame := by
  unfold State.maskByte; repeat (first | rfl | split)

@[simp] theorem State.maskByte_host_sdo (high : Bool) (value : Byte) (s : State) :
    (s.maskByte high value).host.sdo = s.host.sdo := by
  unfold State.maskByte; repeat (first | rfl | split)

@[simp] theorem State.maskByte_host_requestBytes (high : Bool) (value : Byte) (s : State) :
    (s.maskByte high value).host.requestBytes = s.host.requestBytes := by
  unfold State.maskByte; repeat (first | rfl | split)

@[simp] theorem State.maskByte_host_compRead (high : Bool) (value : Byte) (s : State) :
    (s.maskByte high value).host.compRead = s.host.compRead := by
  unfold State.maskByte; repeat (first | rfl | split)

@[simp] theorem State.maskByte_host_noticeRead (high : Bool) (value : Byte) (s : State) :
    (s.maskByte high value).host.noticeRead = s.host.noticeRead := by
  unfold State.maskByte; repeat (first | rfl | split)

@[simp] theorem State.maskByte_host_viewRead (high : Bool) (value : Byte) (s : State) :
    (s.maskByte high value).host.viewRead = s.host.viewRead := by
  unfold State.maskByte; repeat (first | rfl | split)

@[simp] theorem State.maskByte_host_findRead (high : Bool) (value : Byte) (s : State) :
    (s.maskByte high value).host.findRead = s.host.findRead := by
  unfold State.maskByte; repeat (first | rfl | split)

@[simp] theorem State.maskByte_host_auditRead (high : Bool) (value : Byte) (s : State) :
    (s.maskByte high value).host.auditRead = s.host.auditRead := by
  unfold State.maskByte; repeat (first | rfl | split)

@[simp] theorem State.maskByte_host_eventsLatch (high : Bool) (value : Byte) (s : State) :
    (s.maskByte high value).host.eventsLatch = s.host.eventsLatch := by
  unfold State.maskByte; repeat (first | rfl | split)

@[simp] theorem State.maskByte_host_commitLatch (high : Bool) (value : Byte) (s : State) :
    (s.maskByte high value).host.commitLatch = s.host.commitLatch := by
  unfold State.maskByte; repeat (first | rfl | split)

/-! ### selectView -/

@[simp] theorem State.selectView_bus (value : Byte) (s : State) :
    (s.selectView value).bus = s.bus := by
  unfold State.selectView; repeat (first | rfl | split)

@[simp] theorem State.selectView_request (value : Byte) (s : State) :
    (s.selectView value).request = s.request := by
  unfold State.selectView; repeat (first | rfl | split)

@[simp] theorem State.selectView_control (value : Byte) (s : State) :
    (s.selectView value).control = s.control := by
  unfold State.selectView; repeat (first | rfl | split)

@[simp] theorem State.selectView_pending (value : Byte) (s : State) :
    (s.selectView value).pending = s.pending := by
  unfold State.selectView; repeat (first | rfl | split)

@[simp] theorem State.selectView_host_site (value : Byte) (s : State) :
    (s.selectView value).host.site = s.host.site := by
  unfold State.selectView; repeat (first | rfl | split)

@[simp] theorem State.selectView_host_events (value : Byte) (s : State) :
    (s.selectView value).host.events = s.host.events := by
  unfold State.selectView; repeat (first | rfl | split)

@[simp] theorem State.selectView_host_mask (value : Byte) (s : State) :
    (s.selectView value).host.mask = s.host.mask := by
  unfold State.selectView; repeat (first | rfl | split)

@[simp] theorem State.selectView_host_lastCmd (value : Byte) (s : State) :
    (s.selectView value).host.lastCmd = s.host.lastCmd := by
  unfold State.selectView; repeat (first | rfl | split)

@[simp] theorem State.selectView_host_find (value : Byte) (s : State) :
    (s.selectView value).host.find = s.host.find := by
  unfold State.selectView; repeat (first | rfl | split)

@[simp] theorem State.selectView_host_selected (value : Byte) (s : State) :
    (s.selectView value).host.selected = s.host.selected := by
  unfold State.selectView; repeat (first | rfl | split)

@[simp] theorem State.selectView_host_frame (value : Byte) (s : State) :
    (s.selectView value).host.frame = s.host.frame := by
  unfold State.selectView; repeat (first | rfl | split)

@[simp] theorem State.selectView_host_sdo (value : Byte) (s : State) :
    (s.selectView value).host.sdo = s.host.sdo := by
  unfold State.selectView; repeat (first | rfl | split)

@[simp] theorem State.selectView_host_requestBytes (value : Byte) (s : State) :
    (s.selectView value).host.requestBytes = s.host.requestBytes := by
  unfold State.selectView; repeat (first | rfl | split)

@[simp] theorem State.selectView_host_compRead (value : Byte) (s : State) :
    (s.selectView value).host.compRead = s.host.compRead := by
  unfold State.selectView; repeat (first | rfl | split)

@[simp] theorem State.selectView_host_noticeRead (value : Byte) (s : State) :
    (s.selectView value).host.noticeRead = s.host.noticeRead := by
  unfold State.selectView; repeat (first | rfl | split)

@[simp] theorem State.selectView_host_viewRead (value : Byte) (s : State) :
    (s.selectView value).host.viewRead = s.host.viewRead := by
  unfold State.selectView; repeat (first | rfl | split)

@[simp] theorem State.selectView_host_findRead (value : Byte) (s : State) :
    (s.selectView value).host.findRead = s.host.findRead := by
  unfold State.selectView; repeat (first | rfl | split)

@[simp] theorem State.selectView_host_auditRead (value : Byte) (s : State) :
    (s.selectView value).host.auditRead = s.host.auditRead := by
  unfold State.selectView; repeat (first | rfl | split)

@[simp] theorem State.selectView_host_eventsLatch (value : Byte) (s : State) :
    (s.selectView value).host.eventsLatch = s.host.eventsLatch := by
  unfold State.selectView; repeat (first | rfl | split)

@[simp] theorem State.selectView_host_commitLatch (value : Byte) (s : State) :
    (s.selectView value).host.commitLatch = s.host.commitLatch := by
  unfold State.selectView; repeat (first | rfl | split)

/-! ### takeCompletion -/

@[simp] theorem State.takeCompletion_bus (s : State) :
    s.takeCompletion.bus = s.bus := by
  unfold State.takeCompletion; repeat (first | rfl | simp | split)

@[simp] theorem State.takeCompletion_engine (s : State) :
    s.takeCompletion.engine = s.engine := by
  unfold State.takeCompletion; repeat (first | rfl | simp | split)

@[simp] theorem State.takeCompletion_control (s : State) :
    s.takeCompletion.control = s.control := by
  unfold State.takeCompletion; repeat (first | rfl | simp | split)

@[simp] theorem State.takeCompletion_pending (s : State) :
    s.takeCompletion.pending = s.pending := by
  unfold State.takeCompletion; repeat (first | rfl | simp | split)

@[simp] theorem State.takeCompletion_host_site (s : State) :
    s.takeCompletion.host.site = s.host.site := by
  unfold State.takeCompletion; repeat (first | rfl | simp | split)

@[simp] theorem State.takeCompletion_host_events (s : State) :
    s.takeCompletion.host.events = s.host.events := by
  unfold State.takeCompletion; repeat (first | rfl | simp | split)

@[simp] theorem State.takeCompletion_host_mask (s : State) :
    s.takeCompletion.host.mask = s.host.mask := by
  unfold State.takeCompletion; repeat (first | rfl | simp | split)

@[simp] theorem State.takeCompletion_host_lastCmd (s : State) :
    s.takeCompletion.host.lastCmd = s.host.lastCmd := by
  unfold State.takeCompletion; repeat (first | rfl | simp | split)

@[simp] theorem State.takeCompletion_host_find (s : State) :
    s.takeCompletion.host.find = s.host.find := by
  unfold State.takeCompletion; repeat (first | rfl | simp | split)

@[simp] theorem State.takeCompletion_host_selected (s : State) :
    s.takeCompletion.host.selected = s.host.selected := by
  unfold State.takeCompletion; repeat (first | rfl | simp | split)

@[simp] theorem State.takeCompletion_host_frame (s : State) :
    s.takeCompletion.host.frame = s.host.frame := by
  unfold State.takeCompletion; repeat (first | rfl | simp | split)

@[simp] theorem State.takeCompletion_host_sdo (s : State) :
    s.takeCompletion.host.sdo = s.host.sdo := by
  unfold State.takeCompletion; repeat (first | rfl | simp | split)

@[simp] theorem State.takeCompletion_host_requestBytes (s : State) :
    s.takeCompletion.host.requestBytes = s.host.requestBytes := by
  unfold State.takeCompletion; repeat (first | rfl | simp | split)

@[simp] theorem State.takeCompletion_host_noticeRead (s : State) :
    s.takeCompletion.host.noticeRead = s.host.noticeRead := by
  unfold State.takeCompletion; repeat (first | rfl | simp | split)

@[simp] theorem State.takeCompletion_host_viewRead (s : State) :
    s.takeCompletion.host.viewRead = s.host.viewRead := by
  unfold State.takeCompletion; repeat (first | rfl | simp | split)

@[simp] theorem State.takeCompletion_host_findRead (s : State) :
    s.takeCompletion.host.findRead = s.host.findRead := by
  unfold State.takeCompletion; repeat (first | rfl | simp | split)

@[simp] theorem State.takeCompletion_host_auditRead (s : State) :
    s.takeCompletion.host.auditRead = s.host.auditRead := by
  unfold State.takeCompletion; repeat (first | rfl | simp | split)

@[simp] theorem State.takeCompletion_host_eventsLatch (s : State) :
    s.takeCompletion.host.eventsLatch = s.host.eventsLatch := by
  unfold State.takeCompletion; repeat (first | rfl | simp | split)

@[simp] theorem State.takeCompletion_host_commitLatch (s : State) :
    s.takeCompletion.host.commitLatch = s.host.commitLatch := by
  unfold State.takeCompletion; repeat (first | rfl | simp | split)

@[simp] theorem State.takeCompletion_request_outcomes (s : State) :
    s.takeCompletion.request.outcomes = s.request.outcomes := by
  unfold State.takeCompletion; repeat (first | rfl | simp | split)

@[simp] theorem State.takeCompletion_request_cursor (s : State) :
    s.takeCompletion.request.cursor = s.request.cursor := by
  unfold State.takeCompletion; repeat (first | rfl | simp | split)

@[simp] theorem State.takeCompletion_request_lrq (s : State) :
    s.takeCompletion.request.lrq = s.request.lrq := by
  unfold State.takeCompletion; repeat (first | rfl | simp | split)

/-! ### commandWithdraw -/

@[simp] theorem State.commandWithdraw_bus (s : State) :
    (s.commandWithdraw).bus = s.bus := by
  unfold State.commandWithdraw; repeat (first | rfl | simp | split)

@[simp] theorem State.commandWithdraw_engine (s : State) :
    (s.commandWithdraw).engine = s.engine := by
  unfold State.commandWithdraw; repeat (first | rfl | simp | split)

@[simp] theorem State.commandWithdraw_control (s : State) :
    (s.commandWithdraw).control = s.control := by
  unfold State.commandWithdraw; repeat (first | rfl | simp | split)

@[simp] theorem State.commandWithdraw_pending (s : State) :
    (s.commandWithdraw).pending = s.pending := by
  unfold State.commandWithdraw; repeat (first | rfl | simp | split)

@[simp] theorem State.commandWithdraw_host_site (s : State) :
    (s.commandWithdraw).host.site = s.host.site := by
  unfold State.commandWithdraw; repeat (first | rfl | simp | split)

@[simp] theorem State.commandWithdraw_host_events (s : State) :
    (s.commandWithdraw).host.events = s.host.events := by
  unfold State.commandWithdraw; repeat (first | rfl | simp | split)

@[simp] theorem State.commandWithdraw_host_mask (s : State) :
    (s.commandWithdraw).host.mask = s.host.mask := by
  unfold State.commandWithdraw; repeat (first | rfl | simp | split)

@[simp] theorem State.commandWithdraw_host_find (s : State) :
    (s.commandWithdraw).host.find = s.host.find := by
  unfold State.commandWithdraw; repeat (first | rfl | simp | split)

@[simp] theorem State.commandWithdraw_host_selected (s : State) :
    (s.commandWithdraw).host.selected = s.host.selected := by
  unfold State.commandWithdraw; repeat (first | rfl | simp | split)

@[simp] theorem State.commandWithdraw_host_frame (s : State) :
    (s.commandWithdraw).host.frame = s.host.frame := by
  unfold State.commandWithdraw; repeat (first | rfl | simp | split)

@[simp] theorem State.commandWithdraw_host_sdo (s : State) :
    (s.commandWithdraw).host.sdo = s.host.sdo := by
  unfold State.commandWithdraw; repeat (first | rfl | simp | split)

@[simp] theorem State.commandWithdraw_host_requestBytes (s : State) :
    (s.commandWithdraw).host.requestBytes = s.host.requestBytes := by
  unfold State.commandWithdraw; repeat (first | rfl | simp | split)

@[simp] theorem State.commandWithdraw_host_compRead (s : State) :
    (s.commandWithdraw).host.compRead = s.host.compRead := by
  unfold State.commandWithdraw; repeat (first | rfl | simp | split)

@[simp] theorem State.commandWithdraw_host_noticeRead (s : State) :
    (s.commandWithdraw).host.noticeRead = s.host.noticeRead := by
  unfold State.commandWithdraw; repeat (first | rfl | simp | split)

@[simp] theorem State.commandWithdraw_host_viewRead (s : State) :
    (s.commandWithdraw).host.viewRead = s.host.viewRead := by
  unfold State.commandWithdraw; repeat (first | rfl | simp | split)

@[simp] theorem State.commandWithdraw_host_findRead (s : State) :
    (s.commandWithdraw).host.findRead = s.host.findRead := by
  unfold State.commandWithdraw; repeat (first | rfl | simp | split)

@[simp] theorem State.commandWithdraw_host_auditRead (s : State) :
    (s.commandWithdraw).host.auditRead = s.host.auditRead := by
  unfold State.commandWithdraw; repeat (first | rfl | simp | split)

@[simp] theorem State.commandWithdraw_host_eventsLatch (s : State) :
    (s.commandWithdraw).host.eventsLatch = s.host.eventsLatch := by
  unfold State.commandWithdraw; repeat (first | rfl | simp | split)

@[simp] theorem State.commandWithdraw_host_commitLatch (s : State) :
    (s.commandWithdraw).host.commitLatch = s.host.commitLatch := by
  unfold State.commandWithdraw; repeat (first | rfl | simp | split)

@[simp] theorem State.commandWithdraw_request_outcomes (s : State) :
    (s.commandWithdraw).request.outcomes = s.request.outcomes := by
  unfold State.commandWithdraw; repeat (first | rfl | simp | split)

@[simp] theorem State.commandWithdraw_request_completions (s : State) :
    (s.commandWithdraw).request.completions = s.request.completions := by
  unfold State.commandWithdraw; repeat (first | rfl | simp | split)

@[simp] theorem State.commandWithdraw_request_cursor (s : State) :
    (s.commandWithdraw).request.cursor = s.request.cursor := by
  unfold State.commandWithdraw; repeat (first | rfl | simp | split)

/-! ### commandLeave -/

@[simp] theorem State.commandLeave_pending (s : State) :
    (s.commandLeave).pending = s.pending := by
  unfold State.commandLeave; repeat (first | rfl | simp | split)

@[simp] theorem State.commandLeave_host_site (s : State) :
    (s.commandLeave).host.site = s.host.site := by
  unfold State.commandLeave; repeat (first | rfl | simp | split)

@[simp] theorem State.commandLeave_host_mask (s : State) :
    (s.commandLeave).host.mask = s.host.mask := by
  unfold State.commandLeave; repeat (first | rfl | simp | split)

@[simp] theorem State.commandLeave_host_find (s : State) :
    (s.commandLeave).host.find = s.host.find := by
  unfold State.commandLeave; repeat (first | rfl | simp | split)

@[simp] theorem State.commandLeave_host_selected (s : State) :
    (s.commandLeave).host.selected = s.host.selected := by
  unfold State.commandLeave; repeat (first | rfl | simp | split)

@[simp] theorem State.commandLeave_host_frame (s : State) :
    (s.commandLeave).host.frame = s.host.frame := by
  unfold State.commandLeave; repeat (first | rfl | simp | split)

@[simp] theorem State.commandLeave_host_sdo (s : State) :
    (s.commandLeave).host.sdo = s.host.sdo := by
  unfold State.commandLeave; repeat (first | rfl | simp | split)

@[simp] theorem State.commandLeave_host_requestBytes (s : State) :
    (s.commandLeave).host.requestBytes = s.host.requestBytes := by
  unfold State.commandLeave; repeat (first | rfl | simp | split)

@[simp] theorem State.commandLeave_host_compRead (s : State) :
    (s.commandLeave).host.compRead = s.host.compRead := by
  unfold State.commandLeave; repeat (first | rfl | simp | split)

@[simp] theorem State.commandLeave_host_noticeRead (s : State) :
    (s.commandLeave).host.noticeRead = s.host.noticeRead := by
  unfold State.commandLeave; repeat (first | rfl | simp | split)

@[simp] theorem State.commandLeave_host_viewRead (s : State) :
    (s.commandLeave).host.viewRead = s.host.viewRead := by
  unfold State.commandLeave; repeat (first | rfl | simp | split)

@[simp] theorem State.commandLeave_host_findRead (s : State) :
    (s.commandLeave).host.findRead = s.host.findRead := by
  unfold State.commandLeave; repeat (first | rfl | simp | split)

@[simp] theorem State.commandLeave_host_auditRead (s : State) :
    (s.commandLeave).host.auditRead = s.host.auditRead := by
  unfold State.commandLeave; repeat (first | rfl | simp | split)

@[simp] theorem State.commandLeave_host_eventsLatch (s : State) :
    (s.commandLeave).host.eventsLatch = s.host.eventsLatch := by
  unfold State.commandLeave; repeat (first | rfl | simp | split)

@[simp] theorem State.commandLeave_host_commitLatch (s : State) :
    (s.commandLeave).host.commitLatch = s.host.commitLatch := by
  unfold State.commandLeave; repeat (first | rfl | simp | split)

/-! ### commandStart -/

@[simp] theorem State.commandStart_bus (s : State) :
    (s.commandStart).bus = s.bus := by
  unfold State.commandStart; repeat (first | rfl | simp | split)

@[simp] theorem State.commandStart_engine (s : State) :
    (s.commandStart).engine = s.engine := by
  unfold State.commandStart; repeat (first | rfl | simp | split)

@[simp] theorem State.commandStart_pending (s : State) :
    (s.commandStart).pending = s.pending := by
  unfold State.commandStart; repeat (first | rfl | simp | split)

@[simp] theorem State.commandStart_host_site (s : State) :
    (s.commandStart).host.site = s.host.site := by
  unfold State.commandStart; repeat (first | rfl | simp | split)

@[simp] theorem State.commandStart_host_events (s : State) :
    (s.commandStart).host.events = s.host.events := by
  unfold State.commandStart; repeat (first | rfl | simp | split)

@[simp] theorem State.commandStart_host_mask (s : State) :
    (s.commandStart).host.mask = s.host.mask := by
  unfold State.commandStart; repeat (first | rfl | simp | split)

@[simp] theorem State.commandStart_host_find (s : State) :
    (s.commandStart).host.find = s.host.find := by
  unfold State.commandStart; repeat (first | rfl | simp | split)

@[simp] theorem State.commandStart_host_selected (s : State) :
    (s.commandStart).host.selected = s.host.selected := by
  unfold State.commandStart; repeat (first | rfl | simp | split)

@[simp] theorem State.commandStart_host_frame (s : State) :
    (s.commandStart).host.frame = s.host.frame := by
  unfold State.commandStart; repeat (first | rfl | simp | split)

@[simp] theorem State.commandStart_host_sdo (s : State) :
    (s.commandStart).host.sdo = s.host.sdo := by
  unfold State.commandStart; repeat (first | rfl | simp | split)

@[simp] theorem State.commandStart_host_requestBytes (s : State) :
    (s.commandStart).host.requestBytes = s.host.requestBytes := by
  unfold State.commandStart; repeat (first | rfl | simp | split)

@[simp] theorem State.commandStart_host_compRead (s : State) :
    (s.commandStart).host.compRead = s.host.compRead := by
  unfold State.commandStart; repeat (first | rfl | simp | split)

@[simp] theorem State.commandStart_host_noticeRead (s : State) :
    (s.commandStart).host.noticeRead = s.host.noticeRead := by
  unfold State.commandStart; repeat (first | rfl | simp | split)

@[simp] theorem State.commandStart_host_viewRead (s : State) :
    (s.commandStart).host.viewRead = s.host.viewRead := by
  unfold State.commandStart; repeat (first | rfl | simp | split)

@[simp] theorem State.commandStart_host_findRead (s : State) :
    (s.commandStart).host.findRead = s.host.findRead := by
  unfold State.commandStart; repeat (first | rfl | simp | split)

@[simp] theorem State.commandStart_host_auditRead (s : State) :
    (s.commandStart).host.auditRead = s.host.auditRead := by
  unfold State.commandStart; repeat (first | rfl | simp | split)

@[simp] theorem State.commandStart_host_eventsLatch (s : State) :
    (s.commandStart).host.eventsLatch = s.host.eventsLatch := by
  unfold State.commandStart; repeat (first | rfl | simp | split)

@[simp] theorem State.commandStart_host_commitLatch (s : State) :
    (s.commandStart).host.commitLatch = s.host.commitLatch := by
  unfold State.commandStart; repeat (first | rfl | simp | split)

@[simp] theorem State.commandStart_request_outcomes (s : State) :
    (s.commandStart).request.outcomes = s.request.outcomes := by
  unfold State.commandStart; repeat (first | rfl | simp | split)

@[simp] theorem State.commandStart_request_completions (s : State) :
    (s.commandStart).request.completions = s.request.completions := by
  unfold State.commandStart; repeat (first | rfl | simp | split)

@[simp] theorem State.commandStart_request_cursor (s : State) :
    (s.commandStart).request.cursor = s.request.cursor := by
  unfold State.commandStart; repeat (first | rfl | simp | split)

@[simp] theorem State.commandStart_request_lrq (s : State) :
    (s.commandStart).request.lrq = s.request.lrq := by
  unfold State.commandStart; repeat (first | rfl | simp | split)


/-! ### submit -/

@[simp] theorem State.submit_bus (bytes : List Byte) (s : State) :
    (s.submit bytes).bus = s.bus := by
  unfold State.submit; split; · rfl
  · split <;> first | (split <;> simp) | simp

@[simp] theorem State.submit_engine (bytes : List Byte) (s : State) :
    (s.submit bytes).engine = s.engine := by
  unfold State.submit; split; · rfl
  · split <;> first | (split <;> simp) | simp

@[simp] theorem State.submit_control (bytes : List Byte) (s : State) :
    (s.submit bytes).control = s.control := by
  unfold State.submit; split; · rfl
  · split <;> first | (split <;> simp) | simp

@[simp] theorem State.submit_pending (bytes : List Byte) (s : State) :
    (s.submit bytes).pending = s.pending := by
  unfold State.submit; split; · rfl
  · split <;> first | (split <;> simp) | simp

@[simp] theorem State.submit_host_site (bytes : List Byte) (s : State) :
    (s.submit bytes).host.site = s.host.site := by
  unfold State.submit; split; · rfl
  · split <;> first | (split <;> simp) | simp

@[simp] theorem State.submit_host_mask (bytes : List Byte) (s : State) :
    (s.submit bytes).host.mask = s.host.mask := by
  unfold State.submit; split; · rfl
  · split <;> first | (split <;> simp) | simp

@[simp] theorem State.submit_host_lastCmd (bytes : List Byte) (s : State) :
    (s.submit bytes).host.lastCmd = s.host.lastCmd := by
  unfold State.submit; split; · rfl
  · split <;> first | (split <;> simp) | simp

@[simp] theorem State.submit_host_find (bytes : List Byte) (s : State) :
    (s.submit bytes).host.find = s.host.find := by
  unfold State.submit; split; · rfl
  · split <;> first | (split <;> simp) | simp

@[simp] theorem State.submit_host_selected (bytes : List Byte) (s : State) :
    (s.submit bytes).host.selected = s.host.selected := by
  unfold State.submit; split; · rfl
  · split <;> first | (split <;> simp) | simp

@[simp] theorem State.submit_host_frame (bytes : List Byte) (s : State) :
    (s.submit bytes).host.frame = s.host.frame := by
  unfold State.submit; split; · rfl
  · split <;> first | (split <;> simp) | simp

@[simp] theorem State.submit_host_sdo (bytes : List Byte) (s : State) :
    (s.submit bytes).host.sdo = s.host.sdo := by
  unfold State.submit; split; · rfl
  · split <;> first | (split <;> simp) | simp

@[simp] theorem State.submit_host_requestBytes (bytes : List Byte) (s : State) :
    (s.submit bytes).host.requestBytes = s.host.requestBytes := by
  unfold State.submit; split; · rfl
  · split <;> first | (split <;> simp) | simp

@[simp] theorem State.submit_host_compRead (bytes : List Byte) (s : State) :
    (s.submit bytes).host.compRead = s.host.compRead := by
  unfold State.submit; split; · rfl
  · split <;> first | (split <;> simp) | simp

@[simp] theorem State.submit_host_noticeRead (bytes : List Byte) (s : State) :
    (s.submit bytes).host.noticeRead = s.host.noticeRead := by
  unfold State.submit; split; · rfl
  · split <;> first | (split <;> simp) | simp

@[simp] theorem State.submit_host_viewRead (bytes : List Byte) (s : State) :
    (s.submit bytes).host.viewRead = s.host.viewRead := by
  unfold State.submit; split; · rfl
  · split <;> first | (split <;> simp) | simp

@[simp] theorem State.submit_host_findRead (bytes : List Byte) (s : State) :
    (s.submit bytes).host.findRead = s.host.findRead := by
  unfold State.submit; split; · rfl
  · split <;> first | (split <;> simp) | simp

@[simp] theorem State.submit_host_auditRead (bytes : List Byte) (s : State) :
    (s.submit bytes).host.auditRead = s.host.auditRead := by
  unfold State.submit; split; · rfl
  · split <;> first | (split <;> simp) | simp

@[simp] theorem State.submit_host_eventsLatch (bytes : List Byte) (s : State) :
    (s.submit bytes).host.eventsLatch = s.host.eventsLatch := by
  unfold State.submit; split; · rfl
  · split <;> first | (split <;> simp) | simp

@[simp] theorem State.submit_host_commitLatch (bytes : List Byte) (s : State) :
    (s.submit bytes).host.commitLatch = s.host.commitLatch := by
  unfold State.submit; split; · rfl
  · split <;> first | (split <;> simp) | simp

@[simp] theorem State.submit_request_outcomes (bytes : List Byte) (s : State) :
    (s.submit bytes).request.outcomes = s.request.outcomes := by
  unfold State.submit; split; · rfl
  · split <;> first | (split <;> simp) | simp

@[simp] theorem State.submit_request_cursor (bytes : List Byte) (s : State) :
    (s.submit bytes).request.cursor = s.request.cursor := by
  unfold State.submit; split; · rfl
  · split <;> first | (split <;> simp) | simp

/-! ### findGo -/

@[simp] theorem State.findGo_bus (s : State) :
    (s.findGo).bus = s.bus := by
  unfold State.findGo; split <;> first | rfl | (dsimp only; split <;> rfl)

@[simp] theorem State.findGo_request (s : State) :
    (s.findGo).request = s.request := by
  unfold State.findGo; split <;> first | rfl | (dsimp only; split <;> rfl)

@[simp] theorem State.findGo_control (s : State) :
    (s.findGo).control = s.control := by
  unfold State.findGo; split <;> first | rfl | (dsimp only; split <;> rfl)

@[simp] theorem State.findGo_pending (s : State) :
    (s.findGo).pending = s.pending := by
  unfold State.findGo; split <;> first | rfl | (dsimp only; split <;> rfl)

@[simp] theorem State.findGo_host_site (s : State) :
    (s.findGo).host.site = s.host.site := by
  unfold State.findGo; split <;> first | rfl | (dsimp only; split <;> rfl)

@[simp] theorem State.findGo_host_mask (s : State) :
    (s.findGo).host.mask = s.host.mask := by
  unfold State.findGo; split <;> first | rfl | (dsimp only; split <;> rfl)

@[simp] theorem State.findGo_host_lastCmd (s : State) :
    (s.findGo).host.lastCmd = s.host.lastCmd := by
  unfold State.findGo; split <;> first | rfl | (dsimp only; split <;> rfl)

@[simp] theorem State.findGo_host_find (s : State) :
    (s.findGo).host.find = s.host.find := by
  unfold State.findGo; split <;> first | rfl | (dsimp only; split <;> rfl)

@[simp] theorem State.findGo_host_selected (s : State) :
    (s.findGo).host.selected = s.host.selected := by
  unfold State.findGo; split <;> first | rfl | (dsimp only; split <;> rfl)

@[simp] theorem State.findGo_host_frame (s : State) :
    (s.findGo).host.frame = s.host.frame := by
  unfold State.findGo; split <;> first | rfl | (dsimp only; split <;> rfl)

@[simp] theorem State.findGo_host_sdo (s : State) :
    (s.findGo).host.sdo = s.host.sdo := by
  unfold State.findGo; split <;> first | rfl | (dsimp only; split <;> rfl)

@[simp] theorem State.findGo_host_requestBytes (s : State) :
    (s.findGo).host.requestBytes = s.host.requestBytes := by
  unfold State.findGo; split <;> first | rfl | (dsimp only; split <;> rfl)

@[simp] theorem State.findGo_host_compRead (s : State) :
    (s.findGo).host.compRead = s.host.compRead := by
  unfold State.findGo; split <;> first | rfl | (dsimp only; split <;> rfl)

@[simp] theorem State.findGo_host_noticeRead (s : State) :
    (s.findGo).host.noticeRead = s.host.noticeRead := by
  unfold State.findGo; split <;> first | rfl | (dsimp only; split <;> rfl)

@[simp] theorem State.findGo_host_viewRead (s : State) :
    (s.findGo).host.viewRead = s.host.viewRead := by
  unfold State.findGo; split <;> first | rfl | (dsimp only; split <;> rfl)

@[simp] theorem State.findGo_host_findRead (s : State) :
    (s.findGo).host.findRead = s.host.findRead := by
  unfold State.findGo; split <;> first | rfl | (dsimp only; split <;> rfl)

@[simp] theorem State.findGo_host_auditRead (s : State) :
    (s.findGo).host.auditRead = s.host.auditRead := by
  unfold State.findGo; split <;> first | rfl | (dsimp only; split <;> rfl)

@[simp] theorem State.findGo_host_eventsLatch (s : State) :
    (s.findGo).host.eventsLatch = s.host.eventsLatch := by
  unfold State.findGo; split <;> first | rfl | (dsimp only; split <;> rfl)

@[simp] theorem State.findGo_host_commitLatch (s : State) :
    (s.findGo).host.commitLatch = s.host.commitLatch := by
  unfold State.findGo; split <;> first | rfl | (dsimp only; split <;> rfl)

/-! ### requestByte -/

@[simp] theorem State.requestByte_bus (value : Byte) (s : State) :
    (s.requestByte value).bus = s.bus := by
  unfold State.requestByte; dsimp only; split <;> simp

@[simp] theorem State.requestByte_engine (value : Byte) (s : State) :
    (s.requestByte value).engine = s.engine := by
  unfold State.requestByte; dsimp only; split <;> simp

@[simp] theorem State.requestByte_control (value : Byte) (s : State) :
    (s.requestByte value).control = s.control := by
  unfold State.requestByte; dsimp only; split <;> simp

@[simp] theorem State.requestByte_pending (value : Byte) (s : State) :
    (s.requestByte value).pending = s.pending := by
  unfold State.requestByte; dsimp only; split <;> simp

@[simp] theorem State.requestByte_host_site (value : Byte) (s : State) :
    (s.requestByte value).host.site = s.host.site := by
  unfold State.requestByte; dsimp only; split <;> simp

@[simp] theorem State.requestByte_host_mask (value : Byte) (s : State) :
    (s.requestByte value).host.mask = s.host.mask := by
  unfold State.requestByte; dsimp only; split <;> simp

@[simp] theorem State.requestByte_host_lastCmd (value : Byte) (s : State) :
    (s.requestByte value).host.lastCmd = s.host.lastCmd := by
  unfold State.requestByte; dsimp only; split <;> simp

@[simp] theorem State.requestByte_host_find (value : Byte) (s : State) :
    (s.requestByte value).host.find = s.host.find := by
  unfold State.requestByte; dsimp only; split <;> simp

@[simp] theorem State.requestByte_host_selected (value : Byte) (s : State) :
    (s.requestByte value).host.selected = s.host.selected := by
  unfold State.requestByte; dsimp only; split <;> simp

@[simp] theorem State.requestByte_host_frame (value : Byte) (s : State) :
    (s.requestByte value).host.frame = s.host.frame := by
  unfold State.requestByte; dsimp only; split <;> simp

@[simp] theorem State.requestByte_host_sdo (value : Byte) (s : State) :
    (s.requestByte value).host.sdo = s.host.sdo := by
  unfold State.requestByte; dsimp only; split <;> simp

@[simp] theorem State.requestByte_host_compRead (value : Byte) (s : State) :
    (s.requestByte value).host.compRead = s.host.compRead := by
  unfold State.requestByte; dsimp only; split <;> simp

@[simp] theorem State.requestByte_host_noticeRead (value : Byte) (s : State) :
    (s.requestByte value).host.noticeRead = s.host.noticeRead := by
  unfold State.requestByte; dsimp only; split <;> simp

@[simp] theorem State.requestByte_host_viewRead (value : Byte) (s : State) :
    (s.requestByte value).host.viewRead = s.host.viewRead := by
  unfold State.requestByte; dsimp only; split <;> simp

@[simp] theorem State.requestByte_host_findRead (value : Byte) (s : State) :
    (s.requestByte value).host.findRead = s.host.findRead := by
  unfold State.requestByte; dsimp only; split <;> simp

@[simp] theorem State.requestByte_host_auditRead (value : Byte) (s : State) :
    (s.requestByte value).host.auditRead = s.host.auditRead := by
  unfold State.requestByte; dsimp only; split <;> simp

@[simp] theorem State.requestByte_host_eventsLatch (value : Byte) (s : State) :
    (s.requestByte value).host.eventsLatch = s.host.eventsLatch := by
  unfold State.requestByte; dsimp only; split <;> simp

@[simp] theorem State.requestByte_host_commitLatch (value : Byte) (s : State) :
    (s.requestByte value).host.commitLatch = s.host.commitLatch := by
  unfold State.requestByte; dsimp only; split <;> simp

@[simp] theorem State.requestByte_request_outcomes (value : Byte) (s : State) :
    (s.requestByte value).request.outcomes = s.request.outcomes := by
  unfold State.requestByte; dsimp only; split <;> simp

@[simp] theorem State.requestByte_request_cursor (value : Byte) (s : State) :
    (s.requestByte value).request.cursor = s.request.cursor := by
  unfold State.requestByte; dsimp only; split <;> simp


/-! ### The ports after a byte that begins a frame -/

/-- No port holds a latch. -/
def HostPort.unlatched (h : HostPort) : Prop :=
  h.compRead = none ∧ h.noticeRead = none ∧ h.viewRead = none ∧ h.findRead = none ∧
  h.auditRead = none ∧ h.eventsLatch = none ∧ h.commitLatch = none

/-- A write latches nothing. -/
theorem State.writeEffect_unlatched (a : Addr) (value : Byte) (s : State)
    (h : s.host.unlatched) : (s.writeEffect a value).host.unlatched := by
  obtain ⟨h1, h2, h3, h4, h5, h6, h7⟩ := h
  unfold HostPort.unlatched State.writeEffect
  split
  case h_3 =>
    unfold State.command
    repeat' split
    all_goals simp_all [State.softReset, State.reset, HostPort.reset]
  all_goals simp [h1, h2, h3, h4, h5, h6, h7]

/-- What every write shows at the host port. -/
theorem State.write_afterWriteAt (a : Addr) (value : Byte) (s : State) :
    AfterWriteAt a s (s.write a value) := by
  refine ⟨rfl, rfl, fun h => ?_⟩
  have := State.writeEffect_unlatched a value (s.reach false a) (by
    rw [State.reach_new _ _ _ h]; simp [HostPort.unlatched, HostPort.commandByte, HostPort.beginFrame, HostPort.endFrame])
  simpa [State.write_eq, HostPort.unlatched] using this
/-! ### Frames (R179, R186) -/

/-- The assertion of CS begins a frame: every port is at its first byte, SDO carries 00h. -/
theorem State.select_eq (s : State) (h : s.host.selected = false) :
    s.select = { s with host := s.host.beginFrame } := by simp [State.select, h]

/-- The first byte of a frame is its command byte. -/
theorem State.spiByte_command (value : Byte) (s : State) (h : s.host.selected = true)
    (hf : s.host.frame = none) :
    s.spiByte value = { s with host := s.host.commandByte value } := by
  simp [State.spiByte, h, hf]

/-- A later byte is a data byte in the frame's direction at its current address. -/
theorem State.spiByte_data (value : Byte) (s : State) (f : Frame) (h : s.host.selected = true)
    (hf : s.host.frame = some f) :
    s.spiByte value = if f.read then s.read f.addr else s.write f.addr value := by
  simp [State.spiByte, h, hf]

/-- While CS is released nothing is taken from SDI. -/
theorem State.spiByte_released (value : Byte) (s : State) (h : s.host.selected = false) :
    s.spiByte value = s := by simp [State.spiByte, h]

/-- A byte read outside ports and latches moves the frame and SDO alone. -/
theorem State.readPlain_onlyFrame (a : Addr) (s : State) : OnlyFrame s (s.readPlain a) := by
  refine ⟨⟨?_, ?_, ?_, ?_, ?_⟩, ?_, ?_, ?_, ?_, ?_⟩ <;> simp [State.readPlain]

/-- SDO is driven with a byte exactly while CS is asserted, after any data byte (R186). -/
theorem State.moved_spiInOrder (read : Bool) (a : Addr) (out : Byte) (s : State) :
    (s.moved read a out).spiInOrder := ⟨rfl, fun _ => rfl⟩

/-! ### Pins (R186, Table 50) -/

/-- A station pulls low the REQ line of its own number alone. -/
theorem State.pullsLow_req (i : Nat) (k : StationNo) (s : State) (h : k ≠ s.me) :
    s.pullsLow i (.req k) = false := by simp [State.pullsLow, h]

/-- A station pulls low the ACK line of its own number alone. -/
theorem State.pullsLow_ack (i : Nat) (k : StationNo) (s : State) (h : k ≠ s.me) :
    s.pullsLow i (.ack k) = false := by simp [State.pullsLow, h]

/-- No input pin is pulled low. -/
theorem State.pullsLow_input (i : Nat) (pin : Pin) (s : State) (h : pin.input = true) :
    s.pullsLow i pin = false := by cases pin <;> first | rfl | cases h

/-- A wired line is low while any station on it pulls it low (R186). -/
theorem wiredHigh_eq_false (i : Nat) (pin : Pin) (stations : List State) :
    wiredHigh i pin stations = false ↔ ∃ s ∈ stations, State.pullsLow i pin s = true := by
  simp [wiredHigh]

end Sys2Proof.Machine
end

