-- ==== Sys2Proof/Laws/Flags.lean ====
section
/-!
SUPPORT. The event flags under each shared operation, bit by bit, and INT (R171 to R175).
-/
namespace Sys2Proof.Machine

/-! ### Bits of EVENTS and EVMASK -/

/-- The positions of Table 42 are different. -/
theorem Event.position_inj (e f : Event) : e.position = f.position ↔ e = f := by
  cases e <;> cases f <;> simp [Event.position]

/-- Each flag has a position below 11. -/
theorem Event.position_lt (e : Event) : e.position < 11 := by cases e <;> decide

/-- Each position below 11 is that of a flag. -/
theorem Event.exists_position (i : Nat) (h : i < 11) : ∃ e : Event, e.position = i := by
  interval_cases i
  exacts [⟨.completion, rfl⟩, ⟨.notice, rfl⟩, ⟨.active, rfl⟩, ⟨.outside, rfl⟩, ⟨.disagree, rfl⟩,
    ⟨.restart, rfl⟩, ⟨.overrun, rfl⟩, ⟨.lock, rfl⟩, ⟨.freeze, rfl⟩, ⟨.findDone, rfl⟩,
    ⟨.donation, rfl⟩]

/-- A position that carries no flag reads 0 in a register that keeps those positions 0. -/
theorem getLsbD_of_reserved (x : BitVec 16) (h : x &&& ~~~ flagPositions = 0#16) (i : Nat)
    (hi : 11 ≤ i) : x.getLsbD i = false := by
  by_cases h16 : i < 16
  · have := congrArg (fun y => y.getLsbD i) h
    simp only [BitVec.getLsbD_and, BitVec.getLsbD_not, flagPositions] at this
    interval_cases i <;> simpa using this
  · exact BitVec.getLsbD_of_ge x i (by omega)

/-- One bit of a two-byte register after one of its bytes was replaced. -/
theorem replaceByte_getLsbD (high : Bool) (value : Byte) (x : BitVec 16) (i : Nat) (h : i < 8) :
    (replaceByte high value x).getLsbD (if high then i + 8 else i) = value.getLsbD i ∧
    (replaceByte high value x).getLsbD (if high then i else i + 8) =
      x.getLsbD (if high then i else i + 8) := by
  have low : ∀ hi lo : Byte, (hi ++ lo : BitVec 16).getLsbD i = lo.getLsbD i := fun hi lo =>
    (BitVec.getLsbD_append (x := hi) (y := lo)).trans (by simp [h])
  have top : ∀ hi lo : Byte, (hi ++ lo : BitVec 16).getLsbD (i + 8) = hi.getLsbD i := fun hi lo =>
    (BitVec.getLsbD_append (x := hi) (y := lo)).trans (by simp)
  cases high <;> simp only [replaceByte, Bool.false_eq_true, if_false, if_true, low, top] <;>
    simp [h, Nat.add_comm]

/-- A bit of one byte of a two-byte register. -/
theorem byteOf_getLsbD (high : Bool) (x : BitVec 16) (i : Nat) (h : i < 8) :
    (byteOf high x).getLsbD i = x.getLsbD (if high then i + 8 else i) := by
  cases high <;> simp [byteOf, h, Nat.add_comm]

/-! ### Flags set -/

/-- An event sets its flag and leaves the others (R171). -/
theorem State.setEvent_flag (e f : Event) (s : State) :
    (s.setEvent e).host.flag f = (s.host.flag f || f == e) := by
  cases e <;> cases f <;> simp [State.setEvent, HostPort.flag, Event.position]

theorem State.setEventIf_flag (b : Bool) (e f : Event) (s : State) :
    (s.setEventIf b e).host.flag f = (s.host.flag f || (b && f == e)) := by
  cases b <;> simp [State.setEventIf, State.setEvent_flag]

theorem State.post_flag (c : Completion) (f : Event) (s : State) :
    (s.post c).host.flag f = (s.host.flag f || f == .completion) := State.setEvent_flag _ _ _

theorem State.postReserved_flag (c : Completion) (f : Event) (s : State) :
    (s.postReserved c).host.flag f = (s.host.flag f || f == .completion) :=
  State.setEvent_flag _ _ _

@[simp] theorem State.clearOwn_flag (f : Event) (s : State) :
    s.clearOwn.host.flag f = s.host.flag f := rfl

@[simp] theorem State.setOwn_flag (o : Own) (f : Event) (s : State) :
    (s.setOwn o).host.flag f = s.host.flag f := rfl

@[simp] theorem State.releasePlace_flag (f : Event) (s : State) :
    s.releasePlace.host.flag f = s.host.flag f := rfl

@[simp] theorem State.choose_flag (f : Event) (s : State) :
    s.choose.host.flag f = s.host.flag f := by rw [State.choose_host]

/-! ### Flags other than COMPLETION under the ends of own records -/

@[simp] theorem State.dropChosen_flag (f : Event) (s : State) (h : f ≠ .completion) :
    s.dropChosen.host.flag f = s.host.flag f := by
  unfold State.dropChosen
  repeat' split
  all_goals simp [State.postReserved_flag, h]

@[simp] theorem State.dropHeld_flag (f : Event) (s : State) (h : f ≠ .completion) :
    s.dropHeld.host.flag f = s.host.flag f := by
  unfold State.dropHeld
  repeat' split
  all_goals first | rfl | (rw [State.postReserved_flag]; simp [h])

@[simp] theorem State.cancelOutcomes_flag (f : Event) (s : State) (h : f ≠ .completion) :
    s.cancelOutcomes.host.flag f = s.host.flag f :=
  cancelAll_keeps (fun t => t.host.flag f)
    (fun t o => by simp [State.postReserved_flag, h]) s.request.outcomes s

@[simp] theorem State.endOwn_flag (outcome : Outcome) (f : Event) (s : State)
    (h : f ≠ .completion) : (s.endOwn outcome).host.flag f = s.host.flag f := by
  unfold State.endOwn
  repeat' split
  all_goals simp [State.postReserved_flag, h]

/-- The flags at an exit: OUTSIDE is set, DONATION at the end of a donation, COMPLETION by the
completions posted, and no other (R117, R122, R157). -/
theorem State.enterOutside_flag (cause : ExitCause) (last : Nat → LastCmd) (f : Event) (s : State)
    (h : f ≠ .completion) : (s.enterOutside cause last).host.flag f =
      (s.host.flag f || f == .outside || (s.isDonor && f == .donation)) := by
  unfold State.enterOutside
  simp only [State.setEventIf_flag, State.setEvent_flag]
  have : ∀ (x : State) l, ({ x with host := { x.host with lastCmd := l } } : State).host.flag f =
      x.host.flag f := fun _ _ => rfl
  simp [HostPort.flag] at this ⊢
  have key := State.dropHeld_flag f s.cancelOutcomes.dropChosen h
  simp only [HostPort.flag] at key
  have k2 := State.cancelOutcomes_flag f s h
  have k3 := State.dropChosen_flag f s.cancelOutcomes h
  simp only [HostPort.flag] at k2 k3
  rw [key, k3, k2]

@[simp] theorem State.enterLeaving_flag (reason : LeaveReason) (f : Event) (s : State)
    (h : f ≠ .completion) : (s.enterLeaving reason).host.flag f = s.host.flag f := by
  unfold State.enterLeaving
  simp only [State.choose_flag]
  rw [State.dropHeld_flag _ _ h, State.dropChosen_flag _ _ h]

/-! ### INT (R175) -/

/-- INT is asserted exactly while some position is set in both registers. -/
theorem State.intAsserted_iff (s : State) :
    s.intAsserted = true ↔ ∃ i, s.host.events.getLsbD i = true ∧ s.host.mask.getLsbD i = true := by
  unfold State.intAsserted
  rw [bne_iff_ne, ne_eq]
  constructor
  · intro h
    by_contra hn
    apply h
    apply BitVec.eq_of_getLsbD_eq
    intro i _
    have := not_exists.mp hn i
    simp only [BitVec.getLsbD_and, BitVec.getLsbD_zero]
    grind
  · rintro ⟨i, he, hm⟩ h
    have := congrArg (fun y : BitVec 16 => y.getLsbD i) h
    simp [he, hm] at this

end Sys2Proof.Machine
end

