-- ==== Sys2Proof/Laws/Commit.lean ====
section
/-!
SUPPORT. What each part of a check window's close and of an application leaves as it was, and the
close as one equation.
-/
namespace Sys2Proof.Machine

/-! ### The opening of a window (R69) -/

@[simp] theorem State.openWindow_engine (s : State) :
    (s.openWindow).engine = s.engine := by
  unfold State.openWindow; repeat (first | rfl | split)

@[simp] theorem State.openWindow_request (s : State) :
    (s.openWindow).request = s.request := by
  unfold State.openWindow; repeat (first | rfl | split)

@[simp] theorem State.openWindow_control (s : State) :
    (s.openWindow).control = s.control := by
  unfold State.openWindow; repeat (first | rfl | split)

@[simp] theorem State.openWindow_host (s : State) :
    (s.openWindow).host = s.host := by
  unfold State.openWindow; repeat (first | rfl | split)

@[simp] theorem State.openWindow_pending (s : State) :
    (s.openWindow).pending = s.pending := by
  unfold State.openWindow; repeat (first | rfl | split)

@[simp] theorem State.openWindow_bus_station (s : State) :
    (s.openWindow).bus.station = s.bus.station := by
  unfold State.openWindow; repeat (first | rfl | split)

@[simp] theorem State.openWindow_bus_locked (s : State) :
    (s.openWindow).bus.locked = s.bus.locked := by
  unfold State.openWindow; repeat (first | rfl | split)

@[simp] theorem State.openWindow_bus_inStep (s : State) :
    (s.openWindow).bus.inStep = s.bus.inStep := by
  unfold State.openWindow; repeat (first | rfl | split)

@[simp] theorem State.openWindow_bus_turn (s : State) :
    (s.openWindow).bus.turn = s.bus.turn := by
  unfold State.openWindow; repeat (first | rfl | split)

@[simp] theorem State.openWindow_bus_openList (s : State) :
    (s.openWindow).bus.openList = s.bus.openList := by
  unfold State.openWindow; repeat (first | rfl | split)

@[simp] theorem State.openWindow_bus_inTransfer (s : State) :
    (s.openWindow).bus.inTransfer = s.bus.inTransfer := by
  unfold State.openWindow; repeat (first | rfl | split)

@[simp] theorem State.openWindow_bus_commit (s : State) :
    (s.openWindow).bus.commit = s.bus.commit := by
  unfold State.openWindow; repeat (first | rfl | split)

@[simp] theorem State.openWindow_bus_roster (s : State) :
    (s.openWindow).bus.roster = s.bus.roster := by
  unfold State.openWindow; repeat (first | rfl | split)

@[simp] theorem State.openWindow_bus_syncList (s : State) :
    (s.openWindow).bus.syncList = s.bus.syncList := by
  unfold State.openWindow; repeat (first | rfl | split)

@[simp] theorem State.openWindow_bus_joinCommit (s : State) :
    (s.openWindow).bus.joinCommit = s.bus.joinCommit := by
  unfold State.openWindow; repeat (first | rfl | split)

@[simp] theorem State.openWindow_bus_restart (s : State) :
    (s.openWindow).bus.restart = s.bus.restart := by
  unfold State.openWindow; repeat (first | rfl | split)

@[simp] theorem State.openWindow_bus_mrsDrive (s : State) :
    (s.openWindow).bus.mrsDrive = s.bus.mrsDrive := by
  unfold State.openWindow; repeat (first | rfl | split)

@[simp] theorem State.openWindow_bus_priIn (s : State) :
    (s.openWindow).bus.priIn = s.bus.priIn := by
  unfold State.openWindow; repeat (first | rfl | split)

@[simp] theorem State.openWindow_bus_tracker (s : State) :
    (s.openWindow).bus.tracker = s.bus.tracker := by
  unfold State.openWindow; repeat (first | rfl | split)

@[simp] theorem State.openWindow_bus_applyQueue (s : State) :
    (s.openWindow).bus.applyQueue = s.bus.applyQueue := by
  unfold State.openWindow; repeat (first | rfl | split)

/-! ### The own record at its commit -/

@[simp] theorem State.ownCommitted_bus (number : CommitNo) (s : State) :
    (s.ownCommitted number).bus = s.bus := by
  unfold State.ownCommitted; repeat (first | rfl | split)

@[simp] theorem State.ownCommitted_engine (number : CommitNo) (s : State) :
    (s.ownCommitted number).engine = s.engine := by
  unfold State.ownCommitted; repeat (first | rfl | split)

@[simp] theorem State.ownCommitted_control (number : CommitNo) (s : State) :
    (s.ownCommitted number).control = s.control := by
  unfold State.ownCommitted; repeat (first | rfl | split)

@[simp] theorem State.ownCommitted_host (number : CommitNo) (s : State) :
    (s.ownCommitted number).host = s.host := by
  unfold State.ownCommitted; repeat (first | rfl | split)

@[simp] theorem State.ownCommitted_pending (number : CommitNo) (s : State) :
    (s.ownCommitted number).pending = s.pending := by
  unfold State.ownCommitted; repeat (first | rfl | split)

@[simp] theorem State.ownCommitted_request_lrq (number : CommitNo) (s : State) :
    (s.ownCommitted number).request.lrq = s.request.lrq := by
  unfold State.ownCommitted; repeat (first | rfl | split)

@[simp] theorem State.ownCommitted_request_held (number : CommitNo) (s : State) :
    (s.ownCommitted number).request.held = s.request.held := by
  unfold State.ownCommitted; repeat (first | rfl | split)

@[simp] theorem State.ownCommitted_request_completions (number : CommitNo) (s : State) :
    (s.ownCommitted number).request.completions = s.request.completions := by
  unfold State.ownCommitted; repeat (first | rfl | split)

@[simp] theorem State.ownCommitted_request_reserved (number : CommitNo) (s : State) :
    (s.ownCommitted number).request.reserved = s.request.reserved := by
  unfold State.ownCommitted; repeat (first | rfl | split)

@[simp] theorem State.ownCommitted_request_auditDue (number : CommitNo) (s : State) :
    (s.ownCommitted number).request.auditDue = s.request.auditDue := by
  unfold State.ownCommitted; repeat (first | rfl | split)

/-! ### The phase at a snapshot record -/

@[simp] theorem State.phaseAt_engine (r : Record) (number : CommitNo) (isVoid : Bool) (s : State) :
    (s.phaseAt r number isVoid).engine = s.engine := by
  unfold State.phaseAt; repeat (first | rfl | split)

@[simp] theorem State.phaseAt_pending (r : Record) (number : CommitNo) (isVoid : Bool) (s : State) :
    (s.phaseAt r number isVoid).pending = s.pending := by
  unfold State.phaseAt; repeat (first | rfl | split)

@[simp] theorem State.phaseAt_bus_station (r : Record) (number : CommitNo) (isVoid : Bool) (s : State) :
    (s.phaseAt r number isVoid).bus.station = s.bus.station := by
  unfold State.phaseAt; repeat (first | rfl | split)

@[simp] theorem State.phaseAt_bus_locked (r : Record) (number : CommitNo) (isVoid : Bool) (s : State) :
    (s.phaseAt r number isVoid).bus.locked = s.bus.locked := by
  unfold State.phaseAt; repeat (first | rfl | split)

@[simp] theorem State.phaseAt_bus_inStep (r : Record) (number : CommitNo) (isVoid : Bool) (s : State) :
    (s.phaseAt r number isVoid).bus.inStep = s.bus.inStep := by
  unfold State.phaseAt; repeat (first | rfl | split)

@[simp] theorem State.phaseAt_bus_turn (r : Record) (number : CommitNo) (isVoid : Bool) (s : State) :
    (s.phaseAt r number isVoid).bus.turn = s.bus.turn := by
  unfold State.phaseAt; repeat (first | rfl | split)

@[simp] theorem State.phaseAt_bus_openList (r : Record) (number : CommitNo) (isVoid : Bool) (s : State) :
    (s.phaseAt r number isVoid).bus.openList = s.bus.openList := by
  unfold State.phaseAt; repeat (first | rfl | split)

@[simp] theorem State.phaseAt_bus_inTransfer (r : Record) (number : CommitNo) (isVoid : Bool) (s : State) :
    (s.phaseAt r number isVoid).bus.inTransfer = s.bus.inTransfer := by
  unfold State.phaseAt; repeat (first | rfl | split)

@[simp] theorem State.phaseAt_bus_window (r : Record) (number : CommitNo) (isVoid : Bool) (s : State) :
    (s.phaseAt r number isVoid).bus.window = s.bus.window := by
  unfold State.phaseAt; repeat (first | rfl | split)

@[simp] theorem State.phaseAt_bus_commit (r : Record) (number : CommitNo) (isVoid : Bool) (s : State) :
    (s.phaseAt r number isVoid).bus.commit = s.bus.commit := by
  unfold State.phaseAt; repeat (first | rfl | split)

@[simp] theorem State.phaseAt_bus_roster (r : Record) (number : CommitNo) (isVoid : Bool) (s : State) :
    (s.phaseAt r number isVoid).bus.roster = s.bus.roster := by
  unfold State.phaseAt; repeat (first | rfl | split)

@[simp] theorem State.phaseAt_bus_syncList (r : Record) (number : CommitNo) (isVoid : Bool) (s : State) :
    (s.phaseAt r number isVoid).bus.syncList = s.bus.syncList := by
  unfold State.phaseAt; repeat (first | rfl | split)

@[simp] theorem State.phaseAt_bus_restart (r : Record) (number : CommitNo) (isVoid : Bool) (s : State) :
    (s.phaseAt r number isVoid).bus.restart = s.bus.restart := by
  unfold State.phaseAt; repeat (first | rfl | split)

@[simp] theorem State.phaseAt_bus_mrsDrive (r : Record) (number : CommitNo) (isVoid : Bool) (s : State) :
    (s.phaseAt r number isVoid).bus.mrsDrive = s.bus.mrsDrive := by
  unfold State.phaseAt; repeat (first | rfl | split)

@[simp] theorem State.phaseAt_bus_priIn (r : Record) (number : CommitNo) (isVoid : Bool) (s : State) :
    (s.phaseAt r number isVoid).bus.priIn = s.bus.priIn := by
  unfold State.phaseAt; repeat (first | rfl | split)

@[simp] theorem State.phaseAt_bus_tracker (r : Record) (number : CommitNo) (isVoid : Bool) (s : State) :
    (s.phaseAt r number isVoid).bus.tracker = s.bus.tracker := by
  unfold State.phaseAt; repeat (first | rfl | split)

@[simp] theorem State.phaseAt_bus_applyQueue (r : Record) (number : CommitNo) (isVoid : Bool) (s : State) :
    (s.phaseAt r number isVoid).bus.applyQueue = s.bus.applyQueue := by
  unfold State.phaseAt; repeat (first | rfl | split)

@[simp] theorem State.phaseAt_request_lrq (r : Record) (number : CommitNo) (isVoid : Bool) (s : State) :
    (s.phaseAt r number isVoid).request.lrq = s.request.lrq := by
  unfold State.phaseAt; repeat (first | rfl | split)

@[simp] theorem State.phaseAt_request_own (r : Record) (number : CommitNo) (isVoid : Bool) (s : State) :
    (s.phaseAt r number isVoid).request.own = s.request.own := by
  unfold State.phaseAt; repeat (first | rfl | split)

@[simp] theorem State.phaseAt_request_held (r : Record) (number : CommitNo) (isVoid : Bool) (s : State) :
    (s.phaseAt r number isVoid).request.held = s.request.held := by
  unfold State.phaseAt; repeat (first | rfl | split)

@[simp] theorem State.phaseAt_request_outcomes (r : Record) (number : CommitNo) (isVoid : Bool) (s : State) :
    (s.phaseAt r number isVoid).request.outcomes = s.request.outcomes := by
  unfold State.phaseAt; repeat (first | rfl | split)

@[simp] theorem State.phaseAt_request_completions (r : Record) (number : CommitNo) (isVoid : Bool) (s : State) :
    (s.phaseAt r number isVoid).request.completions = s.request.completions := by
  unfold State.phaseAt; repeat (first | rfl | split)

@[simp] theorem State.phaseAt_request_reserved (r : Record) (number : CommitNo) (isVoid : Bool) (s : State) :
    (s.phaseAt r number isVoid).request.reserved = s.request.reserved := by
  unfold State.phaseAt; repeat (first | rfl | split)

@[simp] theorem State.phaseAt_request_cursor (r : Record) (number : CommitNo) (isVoid : Bool) (s : State) :
    (s.phaseAt r number isVoid).request.cursor = s.request.cursor := by
  unfold State.phaseAt; repeat (first | rfl | split)

@[simp] theorem State.phaseAt_control_leaveReason (r : Record) (number : CommitNo) (isVoid : Bool) (s : State) :
    (s.phaseAt r number isVoid).control.leaveReason = s.control.leaveReason := by
  unfold State.phaseAt; repeat (first | rfl | split)

@[simp] theorem State.phaseAt_control_leaveHeld (r : Record) (number : CommitNo) (isVoid : Bool) (s : State) :
    (s.phaseAt r number isVoid).control.leaveHeld = s.control.leaveHeld := by
  unfold State.phaseAt; repeat (first | rfl | split)

@[simp] theorem State.phaseAt_control_exitCause (r : Record) (number : CommitNo) (isVoid : Bool) (s : State) :
    (s.phaseAt r number isVoid).control.exitCause = s.control.exitCause := by
  unfold State.phaseAt; repeat (first | rfl | split)

@[simp] theorem State.phaseAt_host_site (r : Record) (number : CommitNo) (isVoid : Bool) (s : State) :
    (s.phaseAt r number isVoid).host.site = s.host.site := by
  unfold State.phaseAt; repeat (first | rfl | split)

@[simp] theorem State.phaseAt_host_mask (r : Record) (number : CommitNo) (isVoid : Bool) (s : State) :
    (s.phaseAt r number isVoid).host.mask = s.host.mask := by
  unfold State.phaseAt; repeat (first | rfl | split)

@[simp] theorem State.phaseAt_host_lastCmd (r : Record) (number : CommitNo) (isVoid : Bool) (s : State) :
    (s.phaseAt r number isVoid).host.lastCmd = s.host.lastCmd := by
  unfold State.phaseAt; repeat (first | rfl | split)

@[simp] theorem State.phaseAt_host_find (r : Record) (number : CommitNo) (isVoid : Bool) (s : State) :
    (s.phaseAt r number isVoid).host.find = s.host.find := by
  unfold State.phaseAt; repeat (first | rfl | split)

@[simp] theorem State.phaseAt_host_selected (r : Record) (number : CommitNo) (isVoid : Bool) (s : State) :
    (s.phaseAt r number isVoid).host.selected = s.host.selected := by
  unfold State.phaseAt; repeat (first | rfl | split)

@[simp] theorem State.phaseAt_host_frame (r : Record) (number : CommitNo) (isVoid : Bool) (s : State) :
    (s.phaseAt r number isVoid).host.frame = s.host.frame := by
  unfold State.phaseAt; repeat (first | rfl | split)

@[simp] theorem State.phaseAt_host_sdo (r : Record) (number : CommitNo) (isVoid : Bool) (s : State) :
    (s.phaseAt r number isVoid).host.sdo = s.host.sdo := by
  unfold State.phaseAt; repeat (first | rfl | split)

@[simp] theorem State.phaseAt_host_requestBytes (r : Record) (number : CommitNo) (isVoid : Bool) (s : State) :
    (s.phaseAt r number isVoid).host.requestBytes = s.host.requestBytes := by
  unfold State.phaseAt; repeat (first | rfl | split)

/-! ### The cursor at a commit -/

@[simp] theorem State.cursorAt_bus (r : Record) (wasDonor : Bool) (before : List StationNo) (s : State) :
    (s.cursorAt r wasDonor before).bus = s.bus := by
  unfold State.cursorAt; dsimp only; repeat (first | rfl | split)

@[simp] theorem State.cursorAt_engine (r : Record) (wasDonor : Bool) (before : List StationNo) (s : State) :
    (s.cursorAt r wasDonor before).engine = s.engine := by
  unfold State.cursorAt; dsimp only; repeat (first | rfl | split)

@[simp] theorem State.cursorAt_control (r : Record) (wasDonor : Bool) (before : List StationNo) (s : State) :
    (s.cursorAt r wasDonor before).control = s.control := by
  unfold State.cursorAt; dsimp only; repeat (first | rfl | split)

@[simp] theorem State.cursorAt_host (r : Record) (wasDonor : Bool) (before : List StationNo) (s : State) :
    (s.cursorAt r wasDonor before).host = s.host := by
  unfold State.cursorAt; dsimp only; repeat (first | rfl | split)

@[simp] theorem State.cursorAt_pending (r : Record) (wasDonor : Bool) (before : List StationNo) (s : State) :
    (s.cursorAt r wasDonor before).pending = s.pending := by
  unfold State.cursorAt; dsimp only; repeat (first | rfl | split)

@[simp] theorem State.cursorAt_request_lrq (r : Record) (wasDonor : Bool) (before : List StationNo) (s : State) :
    (s.cursorAt r wasDonor before).request.lrq = s.request.lrq := by
  unfold State.cursorAt; dsimp only; repeat (first | rfl | split)

@[simp] theorem State.cursorAt_request_own (r : Record) (wasDonor : Bool) (before : List StationNo) (s : State) :
    (s.cursorAt r wasDonor before).request.own = s.request.own := by
  unfold State.cursorAt; dsimp only; repeat (first | rfl | split)

@[simp] theorem State.cursorAt_request_held (r : Record) (wasDonor : Bool) (before : List StationNo) (s : State) :
    (s.cursorAt r wasDonor before).request.held = s.request.held := by
  unfold State.cursorAt; dsimp only; repeat (first | rfl | split)

@[simp] theorem State.cursorAt_request_outcomes (r : Record) (wasDonor : Bool) (before : List StationNo) (s : State) :
    (s.cursorAt r wasDonor before).request.outcomes = s.request.outcomes := by
  unfold State.cursorAt; dsimp only; repeat (first | rfl | split)

@[simp] theorem State.cursorAt_request_completions (r : Record) (wasDonor : Bool) (before : List StationNo) (s : State) :
    (s.cursorAt r wasDonor before).request.completions = s.request.completions := by
  unfold State.cursorAt; dsimp only; repeat (first | rfl | split)

@[simp] theorem State.cursorAt_request_reserved (r : Record) (wasDonor : Bool) (before : List StationNo) (s : State) :
    (s.cursorAt r wasDonor before).request.reserved = s.request.reserved := by
  unfold State.cursorAt; dsimp only; repeat (first | rfl | split)

@[simp] theorem State.cursorAt_request_auditDue (r : Record) (wasDonor : Bool) (before : List StationNo) (s : State) :
    (s.cursorAt r wasDonor before).request.auditDue = s.request.auditDue := by
  unfold State.cursorAt; dsimp only; repeat (first | rfl | split)

/-! ### The beginning of the freeze -/

@[simp] theorem State.freezeBegins_bus (s : State) :
    (s.freezeBegins).bus = s.bus := by
  unfold State.freezeBegins; repeat (first | rfl | split)

@[simp] theorem State.freezeBegins_engine (s : State) :
    (s.freezeBegins).engine = s.engine := by
  unfold State.freezeBegins; repeat (first | rfl | split)

@[simp] theorem State.freezeBegins_control (s : State) :
    (s.freezeBegins).control = s.control := by
  unfold State.freezeBegins; repeat (first | rfl | split)

@[simp] theorem State.freezeBegins_host (s : State) :
    (s.freezeBegins).host = s.host := by
  unfold State.freezeBegins; repeat (first | rfl | split)

@[simp] theorem State.freezeBegins_pending (s : State) :
    (s.freezeBegins).pending = s.pending := by
  unfold State.freezeBegins; repeat (first | rfl | split)

@[simp] theorem State.freezeBegins_request_lrq (s : State) :
    (s.freezeBegins).request.lrq = s.request.lrq := by
  unfold State.freezeBegins; repeat (first | rfl | split)

@[simp] theorem State.freezeBegins_request_outcomes (s : State) :
    (s.freezeBegins).request.outcomes = s.request.outcomes := by
  unfold State.freezeBegins; repeat (first | rfl | split)

@[simp] theorem State.freezeBegins_request_completions (s : State) :
    (s.freezeBegins).request.completions = s.request.completions := by
  unfold State.freezeBegins; repeat (first | rfl | split)

@[simp] theorem State.freezeBegins_request_cursor (s : State) :
    (s.freezeBegins).request.cursor = s.request.cursor := by
  unfold State.freezeBegins; repeat (first | rfl | split)

/-! ### A commit at a member -/

@[simp] theorem State.commitMember_pending (r : Record) (own : Bool) (ack : BitVec 8) (s : State) :
    (s.commitMember r own ack).pending = s.pending := by
  unfold State.commitMember; dsimp only; repeat (first | rfl | simp | split)

@[simp] theorem State.commitMember_bus_station (r : Record) (own : Bool) (ack : BitVec 8) (s : State) :
    (s.commitMember r own ack).bus.station = s.bus.station := by
  unfold State.commitMember; dsimp only; repeat (first | rfl | simp [BusUnit.exit] | split)

@[simp] theorem State.commitMember_bus_locked (r : Record) (own : Bool) (ack : BitVec 8) (s : State) :
    (s.commitMember r own ack).bus.locked = s.bus.locked := by
  unfold State.commitMember; dsimp only; repeat (first | rfl | simp [BusUnit.exit] | split)

@[simp] theorem State.commitMember_bus_inStep (r : Record) (own : Bool) (ack : BitVec 8) (s : State) :
    (s.commitMember r own ack).bus.inStep = s.bus.inStep := by
  unfold State.commitMember; dsimp only; repeat (first | rfl | simp [BusUnit.exit] | split)

@[simp] theorem State.commitMember_bus_turn (r : Record) (own : Bool) (ack : BitVec 8) (s : State) :
    (s.commitMember r own ack).bus.turn = s.bus.turn := by
  unfold State.commitMember; dsimp only; repeat (first | rfl | simp [BusUnit.exit] | split)

@[simp] theorem State.commitMember_bus_openList (r : Record) (own : Bool) (ack : BitVec 8) (s : State) :
    (s.commitMember r own ack).bus.openList = s.bus.openList := by
  unfold State.commitMember; dsimp only; repeat (first | rfl | simp [BusUnit.exit] | split)

@[simp] theorem State.commitMember_bus_restart (r : Record) (own : Bool) (ack : BitVec 8) (s : State) :
    (s.commitMember r own ack).bus.restart = s.bus.restart := by
  unfold State.commitMember; dsimp only; repeat (first | rfl | simp [BusUnit.exit] | split)

@[simp] theorem State.commitMember_bus_priIn (r : Record) (own : Bool) (ack : BitVec 8) (s : State) :
    (s.commitMember r own ack).bus.priIn = s.bus.priIn := by
  unfold State.commitMember; dsimp only; repeat (first | rfl | simp [BusUnit.exit] | split)

@[simp] theorem State.commitMember_engine_pools (r : Record) (own : Bool) (ack : BitVec 8) (s : State) :
    (s.commitMember r own ack).engine.pools = s.engine.pools := by
  unfold State.commitMember; dsimp only; repeat (first | rfl | simp [Engine.exit] | split)

@[simp] theorem State.commitMember_engine_slots (r : Record) (own : Bool) (ack : BitVec 8) (s : State) :
    (s.commitMember r own ack).engine.slots = s.engine.slots := by
  unfold State.commitMember; dsimp only; repeat (first | rfl | simp [Engine.exit] | split)

@[simp] theorem State.commitMember_engine_digest (r : Record) (own : Bool) (ack : BitVec 8) (s : State) :
    (s.commitMember r own ack).engine.digest = s.engine.digest := by
  unfold State.commitMember; dsimp only; repeat (first | rfl | simp [Engine.exit] | split)

@[simp] theorem State.commitMember_engine_history (r : Record) (own : Bool) (ack : BitVec 8) (s : State) :
    (s.commitMember r own ack).engine.history = s.engine.history := by
  unfold State.commitMember; dsimp only; repeat (first | rfl | simp [Engine.exit] | split)

@[simp] theorem State.commitMember_engine_commit (r : Record) (own : Bool) (ack : BitVec 8) (s : State) :
    (s.commitMember r own ack).engine.commit = s.engine.commit := by
  unfold State.commitMember; dsimp only; repeat (first | rfl | simp [Engine.exit] | split)

@[simp] theorem State.commitMember_engine_horizon (r : Record) (own : Bool) (ack : BitVec 8) (s : State) :
    (s.commitMember r own ack).engine.horizon = s.engine.horizon := by
  unfold State.commitMember; dsimp only; repeat (first | rfl | simp [Engine.exit] | split)

@[simp] theorem State.commitMember_engine_installed (r : Record) (own : Bool) (ack : BitVec 8) (s : State) :
    (s.commitMember r own ack).engine.installed = s.engine.installed := by
  unfold State.commitMember; dsimp only; repeat (first | rfl | simp [Engine.exit] | split)

@[simp] theorem State.commitMember_engine_notices (r : Record) (own : Bool) (ack : BitVec 8) (s : State) :
    (s.commitMember r own ack).engine.notices = s.engine.notices := by
  unfold State.commitMember; dsimp only; repeat (first | rfl | simp [Engine.exit] | split)

@[simp] theorem State.commitMember_engine_auditRecord (r : Record) (own : Bool) (ack : BitVec 8) (s : State) :
    (s.commitMember r own ack).engine.auditRecord = s.engine.auditRecord := by
  unfold State.commitMember; dsimp only; repeat (first | rfl | simp [Engine.exit] | split)

@[simp] theorem State.commitMember_engine_viewPending (r : Record) (own : Bool) (ack : BitVec 8) (s : State) :
    (s.commitMember r own ack).engine.viewPending = s.engine.viewPending := by
  unfold State.commitMember; dsimp only; repeat (first | rfl | simp [Engine.exit] | split)

@[simp] theorem State.commitMember_engine_viewBuffer (r : Record) (own : Bool) (ack : BitVec 8) (s : State) :
    (s.commitMember r own ack).engine.viewBuffer = s.engine.viewBuffer := by
  unfold State.commitMember; dsimp only; repeat (first | rfl | simp [Engine.exit] | split)

@[simp] theorem State.commitMember_host_site (r : Record) (own : Bool) (ack : BitVec 8) (s : State) :
    (s.commitMember r own ack).host.site = s.host.site := by
  unfold State.commitMember; dsimp only; repeat (first | rfl | simp | split)

@[simp] theorem State.commitMember_host_mask (r : Record) (own : Bool) (ack : BitVec 8) (s : State) :
    (s.commitMember r own ack).host.mask = s.host.mask := by
  unfold State.commitMember; dsimp only; repeat (first | rfl | simp | split)

@[simp] theorem State.commitMember_host_find (r : Record) (own : Bool) (ack : BitVec 8) (s : State) :
    (s.commitMember r own ack).host.find = s.host.find := by
  unfold State.commitMember; dsimp only; repeat (first | rfl | simp | split)

/-! ### The commit of the own JOIN -/

@[simp] theorem State.commitJoin_pending (ack : BitVec 8) (s : State) :
    (s.commitJoin ack).pending = s.pending := by
  unfold State.commitJoin; dsimp only; repeat (first | rfl | simp | split)

@[simp] theorem State.commitJoin_bus_station (ack : BitVec 8) (s : State) :
    (s.commitJoin ack).bus.station = s.bus.station := by
  unfold State.commitJoin; dsimp only; repeat (first | rfl | simp | split)

@[simp] theorem State.commitJoin_bus_locked (ack : BitVec 8) (s : State) :
    (s.commitJoin ack).bus.locked = s.bus.locked := by
  unfold State.commitJoin; dsimp only; repeat (first | rfl | simp | split)

@[simp] theorem State.commitJoin_bus_inStep (ack : BitVec 8) (s : State) :
    (s.commitJoin ack).bus.inStep = s.bus.inStep := by
  unfold State.commitJoin; dsimp only; repeat (first | rfl | simp | split)

@[simp] theorem State.commitJoin_bus_turn (ack : BitVec 8) (s : State) :
    (s.commitJoin ack).bus.turn = s.bus.turn := by
  unfold State.commitJoin; dsimp only; repeat (first | rfl | simp | split)

@[simp] theorem State.commitJoin_bus_openList (ack : BitVec 8) (s : State) :
    (s.commitJoin ack).bus.openList = s.bus.openList := by
  unfold State.commitJoin; dsimp only; repeat (first | rfl | simp | split)

@[simp] theorem State.commitJoin_bus_inTransfer (ack : BitVec 8) (s : State) :
    (s.commitJoin ack).bus.inTransfer = s.bus.inTransfer := by
  unfold State.commitJoin; dsimp only; repeat (first | rfl | simp | split)

@[simp] theorem State.commitJoin_bus_window (ack : BitVec 8) (s : State) :
    (s.commitJoin ack).bus.window = s.bus.window := by
  unfold State.commitJoin; dsimp only; repeat (first | rfl | simp | split)

@[simp] theorem State.commitJoin_bus_restart (ack : BitVec 8) (s : State) :
    (s.commitJoin ack).bus.restart = s.bus.restart := by
  unfold State.commitJoin; dsimp only; repeat (first | rfl | simp | split)

@[simp] theorem State.commitJoin_bus_mrsDrive (ack : BitVec 8) (s : State) :
    (s.commitJoin ack).bus.mrsDrive = s.bus.mrsDrive := by
  unfold State.commitJoin; dsimp only; repeat (first | rfl | simp | split)

@[simp] theorem State.commitJoin_bus_priIn (ack : BitVec 8) (s : State) :
    (s.commitJoin ack).bus.priIn = s.bus.priIn := by
  unfold State.commitJoin; dsimp only; repeat (first | rfl | simp | split)

@[simp] theorem State.commitJoin_bus_tracker (ack : BitVec 8) (s : State) :
    (s.commitJoin ack).bus.tracker = s.bus.tracker := by
  unfold State.commitJoin; dsimp only; repeat (first | rfl | simp | split)

@[simp] theorem State.commitJoin_engine_pools (ack : BitVec 8) (s : State) :
    (s.commitJoin ack).engine.pools = s.engine.pools := by
  unfold State.commitJoin; dsimp only; repeat (first | rfl | simp | split)

@[simp] theorem State.commitJoin_engine_slots (ack : BitVec 8) (s : State) :
    (s.commitJoin ack).engine.slots = s.engine.slots := by
  unfold State.commitJoin; dsimp only; repeat (first | rfl | simp | split)

@[simp] theorem State.commitJoin_engine_digest (ack : BitVec 8) (s : State) :
    (s.commitJoin ack).engine.digest = s.engine.digest := by
  unfold State.commitJoin; dsimp only; repeat (first | rfl | simp | split)

@[simp] theorem State.commitJoin_engine_history (ack : BitVec 8) (s : State) :
    (s.commitJoin ack).engine.history = s.engine.history := by
  unfold State.commitJoin; dsimp only; repeat (first | rfl | simp | split)

@[simp] theorem State.commitJoin_engine_historyRunning (ack : BitVec 8) (s : State) :
    (s.commitJoin ack).engine.historyRunning = s.engine.historyRunning := by
  unfold State.commitJoin; dsimp only; repeat (first | rfl | simp | split)

@[simp] theorem State.commitJoin_engine_commit (ack : BitVec 8) (s : State) :
    (s.commitJoin ack).engine.commit = s.engine.commit := by
  unfold State.commitJoin; dsimp only; repeat (first | rfl | simp | split)

@[simp] theorem State.commitJoin_engine_stale (ack : BitVec 8) (s : State) :
    (s.commitJoin ack).engine.stale = s.engine.stale := by
  unfold State.commitJoin; dsimp only; repeat (first | rfl | simp | split)

@[simp] theorem State.commitJoin_engine_current (ack : BitVec 8) (s : State) :
    (s.commitJoin ack).engine.current = s.engine.current := by
  unfold State.commitJoin; dsimp only; repeat (first | rfl | simp | split)

@[simp] theorem State.commitJoin_engine_horizon (ack : BitVec 8) (s : State) :
    (s.commitJoin ack).engine.horizon = s.engine.horizon := by
  unfold State.commitJoin; dsimp only; repeat (first | rfl | simp | split)

@[simp] theorem State.commitJoin_engine_installed (ack : BitVec 8) (s : State) :
    (s.commitJoin ack).engine.installed = s.engine.installed := by
  unfold State.commitJoin; dsimp only; repeat (first | rfl | simp | split)

@[simp] theorem State.commitJoin_engine_notices (ack : BitVec 8) (s : State) :
    (s.commitJoin ack).engine.notices = s.engine.notices := by
  unfold State.commitJoin; dsimp only; repeat (first | rfl | simp | split)

@[simp] theorem State.commitJoin_engine_auditRecord (ack : BitVec 8) (s : State) :
    (s.commitJoin ack).engine.auditRecord = s.engine.auditRecord := by
  unfold State.commitJoin; dsimp only; repeat (first | rfl | simp | split)

@[simp] theorem State.commitJoin_engine_viewPending (ack : BitVec 8) (s : State) :
    (s.commitJoin ack).engine.viewPending = s.engine.viewPending := by
  unfold State.commitJoin; dsimp only; repeat (first | rfl | simp | split)

@[simp] theorem State.commitJoin_engine_viewBuffer (ack : BitVec 8) (s : State) :
    (s.commitJoin ack).engine.viewBuffer = s.engine.viewBuffer := by
  unfold State.commitJoin; dsimp only; repeat (first | rfl | simp | split)

@[simp] theorem State.commitJoin_request_lrq (ack : BitVec 8) (s : State) :
    (s.commitJoin ack).request.lrq = s.request.lrq := by
  unfold State.commitJoin; dsimp only; repeat (first | rfl | simp | split)

@[simp] theorem State.commitJoin_request_outcomes (ack : BitVec 8) (s : State) :
    (s.commitJoin ack).request.outcomes = s.request.outcomes := by
  unfold State.commitJoin; dsimp only; repeat (first | rfl | simp | split)

@[simp] theorem State.commitJoin_request_cursor (ack : BitVec 8) (s : State) :
    (s.commitJoin ack).request.cursor = s.request.cursor := by
  unfold State.commitJoin; dsimp only; repeat (first | rfl | simp | split)

@[simp] theorem State.commitJoin_control_exitCause (ack : BitVec 8) (s : State) :
    (s.commitJoin ack).control.exitCause = s.control.exitCause := by
  unfold State.commitJoin; dsimp only; repeat (first | rfl | simp | split)

@[simp] theorem State.commitJoin_host_site (ack : BitVec 8) (s : State) :
    (s.commitJoin ack).host.site = s.host.site := by
  unfold State.commitJoin; dsimp only; repeat (first | rfl | simp | split)

@[simp] theorem State.commitJoin_host_mask (ack : BitVec 8) (s : State) :
    (s.commitJoin ack).host.mask = s.host.mask := by
  unfold State.commitJoin; dsimp only; repeat (first | rfl | simp | split)

@[simp] theorem State.commitJoin_host_lastCmd (ack : BitVec 8) (s : State) :
    (s.commitJoin ack).host.lastCmd = s.host.lastCmd := by
  unfold State.commitJoin; dsimp only; repeat (first | rfl | simp | split)

@[simp] theorem State.commitJoin_host_find (ack : BitVec 8) (s : State) :
    (s.commitJoin ack).host.find = s.host.find := by
  unfold State.commitJoin; dsimp only; repeat (first | rfl | simp | split)

/-! ### A station that failed its ACK -/

@[simp] theorem State.selfDrop_pending (own aborted : Bool) (s : State) :
    (s.selfDrop own aborted).pending = s.pending := by
  unfold State.selfDrop; dsimp only; repeat (first | rfl | simp | split)

@[simp] theorem State.selfDrop_bus_station (own aborted : Bool) (s : State) :
    (s.selfDrop own aborted).bus.station = s.bus.station := by
  unfold State.selfDrop; dsimp only; repeat (first | rfl | simp [BusUnit.exit] | split)

@[simp] theorem State.selfDrop_bus_locked (own aborted : Bool) (s : State) :
    (s.selfDrop own aborted).bus.locked = s.bus.locked := by
  unfold State.selfDrop; dsimp only; repeat (first | rfl | simp [BusUnit.exit] | split)

@[simp] theorem State.selfDrop_bus_inStep (own aborted : Bool) (s : State) :
    (s.selfDrop own aborted).bus.inStep = s.bus.inStep := by
  unfold State.selfDrop; dsimp only; repeat (first | rfl | simp [BusUnit.exit] | split)

@[simp] theorem State.selfDrop_bus_turn (own aborted : Bool) (s : State) :
    (s.selfDrop own aborted).bus.turn = s.bus.turn := by
  unfold State.selfDrop; dsimp only; repeat (first | rfl | simp [BusUnit.exit] | split)

@[simp] theorem State.selfDrop_bus_openList (own aborted : Bool) (s : State) :
    (s.selfDrop own aborted).bus.openList = s.bus.openList := by
  unfold State.selfDrop; dsimp only; repeat (first | rfl | simp [BusUnit.exit] | split)

@[simp] theorem State.selfDrop_bus_commit (own aborted : Bool) (s : State) :
    (s.selfDrop own aborted).bus.commit = s.bus.commit := by
  unfold State.selfDrop; dsimp only; repeat (first | rfl | simp [BusUnit.exit] | split)

@[simp] theorem State.selfDrop_bus_joinCommit (own aborted : Bool) (s : State) :
    (s.selfDrop own aborted).bus.joinCommit = s.bus.joinCommit := by
  unfold State.selfDrop; dsimp only; repeat (first | rfl | simp [BusUnit.exit] | split)

@[simp] theorem State.selfDrop_bus_restart (own aborted : Bool) (s : State) :
    (s.selfDrop own aborted).bus.restart = s.bus.restart := by
  unfold State.selfDrop; dsimp only; repeat (first | rfl | simp [BusUnit.exit] | split)

@[simp] theorem State.selfDrop_bus_priIn (own aborted : Bool) (s : State) :
    (s.selfDrop own aborted).bus.priIn = s.bus.priIn := by
  unfold State.selfDrop; dsimp only; repeat (first | rfl | simp [BusUnit.exit] | split)

@[simp] theorem State.selfDrop_engine_pools (own aborted : Bool) (s : State) :
    (s.selfDrop own aborted).engine.pools = s.engine.pools := by
  unfold State.selfDrop; dsimp only; repeat (first | rfl | simp [Engine.exit] | split)

@[simp] theorem State.selfDrop_engine_slots (own aborted : Bool) (s : State) :
    (s.selfDrop own aborted).engine.slots = s.engine.slots := by
  unfold State.selfDrop; dsimp only; repeat (first | rfl | simp [Engine.exit] | split)

@[simp] theorem State.selfDrop_engine_digest (own aborted : Bool) (s : State) :
    (s.selfDrop own aborted).engine.digest = s.engine.digest := by
  unfold State.selfDrop; dsimp only; repeat (first | rfl | simp [Engine.exit] | split)

@[simp] theorem State.selfDrop_engine_history (own aborted : Bool) (s : State) :
    (s.selfDrop own aborted).engine.history = s.engine.history := by
  unfold State.selfDrop; dsimp only; repeat (first | rfl | simp [Engine.exit] | split)

@[simp] theorem State.selfDrop_engine_commit (own aborted : Bool) (s : State) :
    (s.selfDrop own aborted).engine.commit = s.engine.commit := by
  unfold State.selfDrop; dsimp only; repeat (first | rfl | simp [Engine.exit] | split)

@[simp] theorem State.selfDrop_engine_horizon (own aborted : Bool) (s : State) :
    (s.selfDrop own aborted).engine.horizon = s.engine.horizon := by
  unfold State.selfDrop; dsimp only; repeat (first | rfl | simp [Engine.exit] | split)

@[simp] theorem State.selfDrop_engine_installed (own aborted : Bool) (s : State) :
    (s.selfDrop own aborted).engine.installed = s.engine.installed := by
  unfold State.selfDrop; dsimp only; repeat (first | rfl | simp [Engine.exit] | split)

@[simp] theorem State.selfDrop_engine_notices (own aborted : Bool) (s : State) :
    (s.selfDrop own aborted).engine.notices = s.engine.notices := by
  unfold State.selfDrop; dsimp only; repeat (first | rfl | simp [Engine.exit] | split)

@[simp] theorem State.selfDrop_engine_auditRecord (own aborted : Bool) (s : State) :
    (s.selfDrop own aborted).engine.auditRecord = s.engine.auditRecord := by
  unfold State.selfDrop; dsimp only; repeat (first | rfl | simp [Engine.exit] | split)

@[simp] theorem State.selfDrop_engine_viewPending (own aborted : Bool) (s : State) :
    (s.selfDrop own aborted).engine.viewPending = s.engine.viewPending := by
  unfold State.selfDrop; dsimp only; repeat (first | rfl | simp [Engine.exit] | split)

@[simp] theorem State.selfDrop_engine_viewBuffer (own aborted : Bool) (s : State) :
    (s.selfDrop own aborted).engine.viewBuffer = s.engine.viewBuffer := by
  unfold State.selfDrop; dsimp only; repeat (first | rfl | simp [Engine.exit] | split)

@[simp] theorem State.selfDrop_engine_scan (own aborted : Bool) (s : State) :
    (s.selfDrop own aborted).engine.scan = s.engine.scan := by
  unfold State.selfDrop; dsimp only; repeat (first | rfl | simp [Engine.exit] | split)

@[simp] theorem State.selfDrop_engine_findResult (own aborted : Bool) (s : State) :
    (s.selfDrop own aborted).engine.findResult = s.engine.findResult := by
  unfold State.selfDrop; dsimp only; repeat (first | rfl | simp [Engine.exit] | split)

@[simp] theorem State.selfDrop_host_site (own aborted : Bool) (s : State) :
    (s.selfDrop own aborted).host.site = s.host.site := by
  unfold State.selfDrop; dsimp only; repeat (first | rfl | simp | split)

@[simp] theorem State.selfDrop_host_mask (own aborted : Bool) (s : State) :
    (s.selfDrop own aborted).host.mask = s.host.mask := by
  unfold State.selfDrop; dsimp only; repeat (first | rfl | simp | split)

@[simp] theorem State.selfDrop_host_find (own aborted : Bool) (s : State) :
    (s.selfDrop own aborted).host.find = s.host.find := by
  unfold State.selfDrop; dsimp only; repeat (first | rfl | simp | split)

/-! ### The completion of an application -/

@[simp] theorem State.complete_bus (e : ApplyEntry) (d : Option Decision) (s : State) :
    (s.complete e d).bus = s.bus := by
  unfold State.complete; repeat (first | rfl | split)

@[simp] theorem State.complete_engine (e : ApplyEntry) (d : Option Decision) (s : State) :
    (s.complete e d).engine = s.engine := by
  unfold State.complete; repeat (first | rfl | split)

@[simp] theorem State.complete_control (e : ApplyEntry) (d : Option Decision) (s : State) :
    (s.complete e d).control = s.control := by
  unfold State.complete; repeat (first | rfl | split)

@[simp] theorem State.complete_pending (e : ApplyEntry) (d : Option Decision) (s : State) :
    (s.complete e d).pending = s.pending := by
  unfold State.complete; repeat (first | rfl | split)

@[simp] theorem State.complete_request_lrq (e : ApplyEntry) (d : Option Decision) (s : State) :
    (s.complete e d).request.lrq = s.request.lrq := by
  unfold State.complete; repeat (first | rfl | split)

@[simp] theorem State.complete_request_own (e : ApplyEntry) (d : Option Decision) (s : State) :
    (s.complete e d).request.own = s.request.own := by
  unfold State.complete; repeat (first | rfl | split)

@[simp] theorem State.complete_request_held (e : ApplyEntry) (d : Option Decision) (s : State) :
    (s.complete e d).request.held = s.request.held := by
  unfold State.complete; repeat (first | rfl | split)

@[simp] theorem State.complete_request_auditDue (e : ApplyEntry) (d : Option Decision) (s : State) :
    (s.complete e d).request.auditDue = s.request.auditDue := by
  unfold State.complete; repeat (first | rfl | split)

@[simp] theorem State.complete_request_cursor (e : ApplyEntry) (d : Option Decision) (s : State) :
    (s.complete e d).request.cursor = s.request.cursor := by
  unfold State.complete; repeat (first | rfl | split)

@[simp] theorem State.complete_host_site (e : ApplyEntry) (d : Option Decision) (s : State) :
    (s.complete e d).host.site = s.host.site := by
  unfold State.complete; repeat (first | rfl | split)

@[simp] theorem State.complete_host_mask (e : ApplyEntry) (d : Option Decision) (s : State) :
    (s.complete e d).host.mask = s.host.mask := by
  unfold State.complete; repeat (first | rfl | split)

@[simp] theorem State.complete_host_lastCmd (e : ApplyEntry) (d : Option Decision) (s : State) :
    (s.complete e d).host.lastCmd = s.host.lastCmd := by
  unfold State.complete; repeat (first | rfl | split)

@[simp] theorem State.complete_host_find (e : ApplyEntry) (d : Option Decision) (s : State) :
    (s.complete e d).host.find = s.host.find := by
  unfold State.complete; repeat (first | rfl | split)

@[simp] theorem State.complete_host_selected (e : ApplyEntry) (d : Option Decision) (s : State) :
    (s.complete e d).host.selected = s.host.selected := by
  unfold State.complete; repeat (first | rfl | split)

@[simp] theorem State.complete_host_frame (e : ApplyEntry) (d : Option Decision) (s : State) :
    (s.complete e d).host.frame = s.host.frame := by
  unfold State.complete; repeat (first | rfl | split)

@[simp] theorem State.complete_host_sdo (e : ApplyEntry) (d : Option Decision) (s : State) :
    (s.complete e d).host.sdo = s.host.sdo := by
  unfold State.complete; repeat (first | rfl | split)

@[simp] theorem State.complete_host_requestBytes (e : ApplyEntry) (d : Option Decision) (s : State) :
    (s.complete e d).host.requestBytes = s.host.requestBytes := by
  unfold State.complete; repeat (first | rfl | split)

/-! ### An application -/

@[simp] theorem State.applyEntry_bus (e : ApplyEntry) (s : State) :
    (s.applyEntry e).bus = s.bus := by
  unfold State.applyEntry State.applySteps; repeat (first | rfl | simp | split)

@[simp] theorem State.applyEntry_control (e : ApplyEntry) (s : State) :
    (s.applyEntry e).control = s.control := by
  unfold State.applyEntry State.applySteps; repeat (first | rfl | simp | split)

@[simp] theorem State.applyEntry_pending (e : ApplyEntry) (s : State) :
    (s.applyEntry e).pending = s.pending := by
  unfold State.applyEntry State.applySteps; repeat (first | rfl | simp | split)

@[simp] theorem State.applyEntry_request_lrq (e : ApplyEntry) (s : State) :
    (s.applyEntry e).request.lrq = s.request.lrq := by
  unfold State.applyEntry State.applySteps; repeat (first | rfl | simp | split)

@[simp] theorem State.applyEntry_request_own (e : ApplyEntry) (s : State) :
    (s.applyEntry e).request.own = s.request.own := by
  unfold State.applyEntry State.applySteps; repeat (first | rfl | simp | split)

@[simp] theorem State.applyEntry_request_held (e : ApplyEntry) (s : State) :
    (s.applyEntry e).request.held = s.request.held := by
  unfold State.applyEntry State.applySteps; repeat (first | rfl | simp | split)

@[simp] theorem State.applyEntry_request_auditDue (e : ApplyEntry) (s : State) :
    (s.applyEntry e).request.auditDue = s.request.auditDue := by
  unfold State.applyEntry State.applySteps; repeat (first | rfl | simp | split)

@[simp] theorem State.applyEntry_request_cursor (e : ApplyEntry) (s : State) :
    (s.applyEntry e).request.cursor = s.request.cursor := by
  unfold State.applyEntry State.applySteps; repeat (first | rfl | simp | split)

@[simp] theorem State.applyEntry_host_site (e : ApplyEntry) (s : State) :
    (s.applyEntry e).host.site = s.host.site := by
  unfold State.applyEntry State.applySteps; repeat (first | rfl | simp | split)

@[simp] theorem State.applyEntry_host_mask (e : ApplyEntry) (s : State) :
    (s.applyEntry e).host.mask = s.host.mask := by
  unfold State.applyEntry State.applySteps; repeat (first | rfl | simp | split)

@[simp] theorem State.applyEntry_host_lastCmd (e : ApplyEntry) (s : State) :
    (s.applyEntry e).host.lastCmd = s.host.lastCmd := by
  unfold State.applyEntry State.applySteps; repeat (first | rfl | simp | split)

@[simp] theorem State.applyEntry_host_find (e : ApplyEntry) (s : State) :
    (s.applyEntry e).host.find = s.host.find := by
  unfold State.applyEntry State.applySteps; repeat (first | rfl | simp | split)

@[simp] theorem State.applyEntry_host_selected (e : ApplyEntry) (s : State) :
    (s.applyEntry e).host.selected = s.host.selected := by
  unfold State.applyEntry State.applySteps; repeat (first | rfl | simp | split)

@[simp] theorem State.applyEntry_host_frame (e : ApplyEntry) (s : State) :
    (s.applyEntry e).host.frame = s.host.frame := by
  unfold State.applyEntry State.applySteps; repeat (first | rfl | simp | split)

@[simp] theorem State.applyEntry_host_sdo (e : ApplyEntry) (s : State) :
    (s.applyEntry e).host.sdo = s.host.sdo := by
  unfold State.applyEntry State.applySteps; repeat (first | rfl | simp | split)

@[simp] theorem State.applyEntry_host_requestBytes (e : ApplyEntry) (s : State) :
    (s.applyEntry e).host.requestBytes = s.host.requestBytes := by
  unfold State.applyEntry State.applySteps; repeat (first | rfl | simp | split)

/-! ### An assertion of MRS -/

@[simp] theorem State.assertMrs_engine_pools (s : State) :
    (s.assertMrs).engine.pools = s.engine.pools := by
  unfold State.assertMrs; repeat (first | rfl | split)

@[simp] theorem State.assertMrs_engine_slots (s : State) :
    (s.assertMrs).engine.slots = s.engine.slots := by
  unfold State.assertMrs; repeat (first | rfl | split)

@[simp] theorem State.assertMrs_engine_digest (s : State) :
    (s.assertMrs).engine.digest = s.engine.digest := by
  unfold State.assertMrs; repeat (first | rfl | split)

@[simp] theorem State.assertMrs_engine_history (s : State) :
    (s.assertMrs).engine.history = s.engine.history := by
  unfold State.assertMrs; repeat (first | rfl | split)

@[simp] theorem State.assertMrs_engine_historyRunning (s : State) :
    (s.assertMrs).engine.historyRunning = s.engine.historyRunning := by
  unfold State.assertMrs; repeat (first | rfl | split)

@[simp] theorem State.assertMrs_engine_commit (s : State) :
    (s.assertMrs).engine.commit = s.engine.commit := by
  unfold State.assertMrs; repeat (first | rfl | split)

@[simp] theorem State.assertMrs_engine_stale (s : State) :
    (s.assertMrs).engine.stale = s.engine.stale := by
  unfold State.assertMrs; repeat (first | rfl | split)

@[simp] theorem State.assertMrs_engine_current (s : State) :
    (s.assertMrs).engine.current = s.engine.current := by
  unfold State.assertMrs; repeat (first | rfl | split)

@[simp] theorem State.assertMrs_engine_horizon (s : State) :
    (s.assertMrs).engine.horizon = s.engine.horizon := by
  unfold State.assertMrs; repeat (first | rfl | split)

@[simp] theorem State.assertMrs_engine_installed (s : State) :
    (s.assertMrs).engine.installed = s.engine.installed := by
  unfold State.assertMrs; repeat (first | rfl | split)

@[simp] theorem State.assertMrs_engine_notices (s : State) :
    (s.assertMrs).engine.notices = s.engine.notices := by
  unfold State.assertMrs; repeat (first | rfl | split)

@[simp] theorem State.assertMrs_engine_auditRecord (s : State) :
    (s.assertMrs).engine.auditRecord = s.engine.auditRecord := by
  unfold State.assertMrs; repeat (first | rfl | split)

@[simp] theorem State.assertMrs_engine_viewPending (s : State) :
    (s.assertMrs).engine.viewPending = s.engine.viewPending := by
  unfold State.assertMrs; repeat (first | rfl | split)

@[simp] theorem State.assertMrs_engine_viewBuffer (s : State) :
    (s.assertMrs).engine.viewBuffer = s.engine.viewBuffer := by
  unfold State.assertMrs; repeat (first | rfl | split)

@[simp] theorem State.assertMrs_engine_scan (s : State) :
    (s.assertMrs).engine.scan = s.engine.scan := by
  unfold State.assertMrs; repeat (first | rfl | split)

@[simp] theorem State.assertMrs_engine_findResult (s : State) :
    (s.assertMrs).engine.findResult = s.engine.findResult := by
  unfold State.assertMrs; repeat (first | rfl | split)

@[simp] theorem State.assertMrs_request_lrq (s : State) :
    (s.assertMrs).request.lrq = s.request.lrq := by
  unfold State.assertMrs; repeat (first | rfl | split)

@[simp] theorem State.assertMrs_request_own (s : State) :
    (s.assertMrs).request.own = s.request.own := by
  unfold State.assertMrs; repeat (first | rfl | split)

@[simp] theorem State.assertMrs_request_held (s : State) :
    (s.assertMrs).request.held = s.request.held := by
  unfold State.assertMrs; repeat (first | rfl | split)

@[simp] theorem State.assertMrs_request_outcomes (s : State) :
    (s.assertMrs).request.outcomes = s.request.outcomes := by
  unfold State.assertMrs; repeat (first | rfl | split)

@[simp] theorem State.assertMrs_request_completions (s : State) :
    (s.assertMrs).request.completions = s.request.completions := by
  unfold State.assertMrs; repeat (first | rfl | split)

@[simp] theorem State.assertMrs_request_reserved (s : State) :
    (s.assertMrs).request.reserved = s.request.reserved := by
  unfold State.assertMrs; repeat (first | rfl | split)

@[simp] theorem State.assertMrs_request_auditDue (s : State) :
    (s.assertMrs).request.auditDue = s.request.auditDue := by
  unfold State.assertMrs; repeat (first | rfl | split)

@[simp] theorem State.assertMrs_request_cursor (s : State) :
    (s.assertMrs).request.cursor = s.request.cursor := by
  unfold State.assertMrs; repeat (first | rfl | split)

@[simp] theorem State.assertMrs_control_station (s : State) :
    (s.assertMrs).control.station = s.control.station := by
  unfold State.assertMrs; repeat (first | rfl | split)

@[simp] theorem State.assertMrs_control_phase (s : State) :
    (s.assertMrs).control.phase = s.control.phase := by
  unfold State.assertMrs; repeat (first | rfl | split)

@[simp] theorem State.assertMrs_control_phaseKept (s : State) :
    (s.assertMrs).control.phaseKept = s.control.phaseKept := by
  unfold State.assertMrs; repeat (first | rfl | split)

@[simp] theorem State.assertMrs_control_leaveReason (s : State) :
    (s.assertMrs).control.leaveReason = s.control.leaveReason := by
  unfold State.assertMrs; repeat (first | rfl | split)

@[simp] theorem State.assertMrs_control_leaveHeld (s : State) :
    (s.assertMrs).control.leaveHeld = s.control.leaveHeld := by
  unfold State.assertMrs; repeat (first | rfl | split)

@[simp] theorem State.assertMrs_control_exitCause (s : State) :
    (s.assertMrs).control.exitCause = s.control.exitCause := by
  unfold State.assertMrs; repeat (first | rfl | split)

@[simp] theorem State.assertMrs_control_syncTimer (s : State) :
    (s.assertMrs).control.syncTimer = s.control.syncTimer := by
  unfold State.assertMrs; repeat (first | rfl | split)

@[simp] theorem State.assertMrs_host_site (s : State) :
    (s.assertMrs).host.site = s.host.site := by
  unfold State.assertMrs; repeat (first | rfl | split)

@[simp] theorem State.assertMrs_host_events (s : State) :
    (s.assertMrs).host.events = s.host.events := by
  unfold State.assertMrs; repeat (first | rfl | split)

@[simp] theorem State.assertMrs_host_mask (s : State) :
    (s.assertMrs).host.mask = s.host.mask := by
  unfold State.assertMrs; repeat (first | rfl | split)

@[simp] theorem State.assertMrs_host_lastCmd (s : State) :
    (s.assertMrs).host.lastCmd = s.host.lastCmd := by
  unfold State.assertMrs; repeat (first | rfl | split)

@[simp] theorem State.assertMrs_host_find (s : State) :
    (s.assertMrs).host.find = s.host.find := by
  unfold State.assertMrs; repeat (first | rfl | split)

@[simp] theorem State.assertMrs_host_selected (s : State) :
    (s.assertMrs).host.selected = s.host.selected := by
  unfold State.assertMrs; repeat (first | rfl | split)

@[simp] theorem State.assertMrs_host_frame (s : State) :
    (s.assertMrs).host.frame = s.host.frame := by
  unfold State.assertMrs; repeat (first | rfl | split)

@[simp] theorem State.assertMrs_host_sdo (s : State) :
    (s.assertMrs).host.sdo = s.host.sdo := by
  unfold State.assertMrs; repeat (first | rfl | split)

@[simp] theorem State.assertMrs_host_requestBytes (s : State) :
    (s.assertMrs).host.requestBytes = s.host.requestBytes := by
  unfold State.assertMrs; repeat (first | rfl | split)

/-! ### Starts that are violations (R80, R81) -/

/-- What the answer to a start that is a violation leaves, outside the record in transfer and MRS. -/
theorem State.violated_eq (s : State) :
    s.violated = { s with bus := { s.bus with
      inTransfer := s.bus.inTransfer.map (fun t => { t with barred := true })
      mrsDrive := s.bus.mrsDrive || !s.bus.restart } } := by
  unfold State.violated State.assertMrs
  rcases h : s.bus.restart <;> simp [h]

/-- Outside an episode MRS is asserted and nothing else changes (R81). -/
theorem State.assertMrs_eq (s : State) :
    s.assertMrs = { s with bus := { s.bus with mrsDrive := s.bus.mrsDrive || !s.bus.restart } } := by
  unfold State.assertMrs
  rcases s with ⟨b, _, _, _, _, _⟩
  rcases b with ⟨_, _, _, _, _, _, _, _, _, _, _, restart, _, _, _, _⟩
  cases restart <;> simp

/-! ### The close of a window as one equation (R69, R72) -/

/-- The close of a window in progress: the head leaves the open list and is decided, the next
window opens, and the request unit chooses anew. -/
theorem State.closeWindow_eq (s : State) (ack : BitVec 8) (flt : Bool) (d : Drive) (o : OpenRecord)
    (rest : List OpenRecord) (hw : s.bus.window = some d) (ho : s.bus.openList = o :: rest) :
    s.closeWindow ack flt = (State.openWindow (State.closeAs d o ack flt
      { s with bus := { s.bus with openList := rest, window := none } })).choose := by
  simp [State.closeWindow, hw, ho]

/-- Where no window is in progress nothing closes. -/
theorem State.closeWindow_none (s : State) (ack : BitVec 8) (flt : Bool)
    (hw : s.bus.window = none) : s.closeWindow ack flt = s := by
  simp [State.closeWindow, hw]

/-- The opening of a window writes the window alone. -/
theorem State.openWindow_bus_eq (s : State) :
    s.openWindow.bus = { s.bus with window := s.openWindow.bus.window } := by
  unfold State.openWindow; repeat (first | rfl | split)

/-- The window that opens: that of the head of the open list, when none is in progress. -/
theorem State.openWindow_window (s : State) :
    s.openWindow.bus.window = match s.bus.window with
      | some d => some d
      | none => s.bus.openList.head?.map (driveFor s) := by
  unfold State.openWindow
  split
  · rename_i hw ho; simp [hw, ho]
  · rename_i h
    rcases hw : s.bus.window with _ | d
    · rcases ho : s.bus.openList with _ | ⟨o, rest⟩
      · simp
      · exact absurd ho (h o rest hw)
    · rfl

/-- A station that is no member drives nothing in a window. -/
theorem driveFor_of_not_member (s : State) (o : OpenRecord) (h : s.control.member = false) :
    driveFor s o = .idle := by
  simp [driveFor, h]

/-- A member drives ACK or FLT while it is LOCKED and in step. -/
theorem driveFor_ne_idle (s : State) (o : OpenRecord) (hl : s.bus.locked = true)
    (hi : s.bus.inStep = true) (h : s.control.member = true) : driveFor s o ≠ .idle := by
  unfold driveFor
  simp only [hl, hi, h, Bool.and_self, if_true]
  split
  · split <;> simp
  · simp

/-- The record a window acknowledges was read from the bytes of its open record. -/
theorem driveFor_ack (s : State) (o : OpenRecord) (r : Record) (h : driveFor s o = .ack r) :
    parseRecord o.bytes = some r ∧ s.control.member = true := by
  unfold driveFor at h
  split at h
  · rename_i hm
    split at h
    · rename_i q hq
      split at h
      · cases h; exact ⟨hq, by simp_all⟩
      · cases h
    · cases h
  · cases h

/-- No JOIN or ordinary record carries a roster (R72). -/
theorem carriedHead_none (s : State) (r : Record) (h : r.body.kind ≠ .snapHead) :
    carriedHead s r = none := by
  rcases r with ⟨k, b⟩
  cases b <;> simp_all [carriedHead, Body.kind]

/-- This station is never in its own drop set (R73). -/
theorem me_not_mem_dropSet (me : StationNo) (roster : Roster) (ack : BitVec 8) :
    me ∉ dropSet me roster ack := by
  simp [dropSet]

/-- The stations of a drop set (R73). -/
theorem mem_dropSet_iff (me k : StationNo) (roster : Roster) (ack : BitVec 8) :
    k ∈ dropSet me roster ack ↔ roster[k] ≠ .absent ∧ lineOf ack k = false ∧ k ≠ me := by
  simp [dropSet, mem_upTo, and_assoc]

end Sys2Proof.Machine
end

