-- ==== Sys2Proof/Laws/PerInstr.lean ====
section
/-!
SUPPORT. The family WellFormedRow: for each command, when it is well formed, in the words of the
spec (which values and addresses belong to its row), one lemma for each constructor.
-/
namespace Sys2Proof

/-- Whether the operands of a command belong to its row: CONTROL_OTHER carries a value that names no
command (R107), REGISTER_WRITE an address with no row of its own in its direction (Table 39), and a record
start received reaches the sender field (R181). The other rows take every operand. -/
def Instr.operandsInRow : Instr → Prop
  | .controlOther value => value.toNat = 0 ∨ 4 < value.toNat
  | .registerWrite (.write addr) _ =>
    addr.toNat ∉ [0x06, 0x07, 0x08, 0x0C, 0x0D, 0x0E, 0x0F, 0x15, 0x1C]
  | .registerWrite (.read addr) _ =>
    addr.toNat ∉ [0x0C, 0x0D, 0x13, 0x14, 0x16, 0x1D, 0x1E] ∧ ¬ (0x20 ≤ addr.toNat ∧ addr.toNat ≤ 0x27)
  | .arbitrationRound _ _ (some started) => 3 ≤ started.length
  | .recordStartWithoutRound started => 3 ≤ started.length
  | _ => True

end Sys2Proof

namespace Sys2Proof.Laws.WellFormedRow
set_option Elab.async false

/-- The check of WellFormed accepts a command exactly when its operands belong to its row. -/
def Statement (i : Instr) : Prop := i.wf = true ↔ i.operandsInRow

theorem pinReset : Statement .pinReset := by
  simp [Statement, Instr.wf, Instr.operandsInRow]

theorem resetRelease (straps : BitVec 3) : Statement (.resetRelease straps) := by
  simp [Statement, Instr.wf, Instr.operandsInRow]

theorem lockGain : Statement .lockGain := by
  simp [Statement, Instr.wf, Instr.operandsInRow]

theorem lockLoss : Statement .lockLoss := by
  simp [Statement, Instr.wf, Instr.operandsInRow]

theorem quietBus : Statement .quietBus := by
  simp [Statement, Instr.wf, Instr.operandsInRow]

theorem start : Statement .start := by
  simp [Statement, Instr.wf, Instr.operandsInRow]

theorem leave : Statement .leave := by
  simp [Statement, Instr.wf, Instr.operandsInRow]

theorem withdraw : Statement .withdraw := by
  simp [Statement, Instr.wf, Instr.operandsInRow]

theorem reinit : Statement .reinit := by
  simp [Statement, Instr.wf, Instr.operandsInRow]

theorem controlOther (value : Byte) : Statement (.controlOther value) := by
  unfold Statement Instr.wf Instr.operandsInRow
  revert value; decide

theorem siteWrite (high : Bool) (value : Byte) : Statement (.siteWrite high value) := by
  simp [Statement, Instr.wf, Instr.operandsInRow]

theorem eventsClear (high : Bool) (value : Byte) : Statement (.eventsClear high value) := by
  simp [Statement, Instr.wf, Instr.operandsInRow]

theorem evmaskWrite (high : Bool) (value : Byte) : Statement (.evmaskWrite high value) := by
  simp [Statement, Instr.wf, Instr.operandsInRow]

theorem viewSel (value : Byte) : Statement (.viewSel value) := by
  simp [Statement, Instr.wf, Instr.operandsInRow]

theorem findGo (value : Byte) : Statement (.findGo value) := by
  simp [Statement, Instr.wf, Instr.operandsInRow]

theorem registerWrite (event : SpiEvent) (value : Byte) :
    Statement (.registerWrite event value) := by
  have written : ∀ a : Addr, (!hasOwnRow a) = true ↔
      a.toNat ∉ [0x06, 0x07, 0x08, 0x0C, 0x0D, 0x0E, 0x0F, 0x15, 0x1C] := by decide
  have readAt : ∀ a : Addr, (!hasReadRow a) = true ↔
      a.toNat ∉ [0x0C, 0x0D, 0x13, 0x14, 0x16, 0x1D, 0x1E] ∧
        ¬ (0x20 ≤ a.toNat ∧ a.toNat ≤ 0x27) := by decide
  cases event with
  | select => simp [Statement, Instr.wf, Instr.operandsInRow]
  | byte => simp [Statement, Instr.wf, Instr.operandsInRow]
  | write addr => exact written addr
  | read addr => exact readAt addr

theorem requestSubmit (value : Byte) : Statement (.requestSubmit value) := by
  simp [Statement, Instr.wf, Instr.operandsInRow]

theorem completionTake : Statement .completionTake := by
  simp [Statement, Instr.wf, Instr.operandsInRow]

theorem noticeTake : Statement .noticeTake := by
  simp [Statement, Instr.wf, Instr.operandsInRow]

theorem viewPortRead : Statement .viewPortRead := by
  simp [Statement, Instr.wf, Instr.operandsInRow]

theorem findPortRead : Statement .findPortRead := by
  simp [Statement, Instr.wf, Instr.operandsInRow]

theorem auditPortRead : Statement .auditPortRead := by
  simp [Statement, Instr.wf, Instr.operandsInRow]

theorem eventsRead (high : Bool) : Statement (.eventsRead high) := by
  simp [Statement, Instr.wf, Instr.operandsInRow]

theorem commitDigestRead (offset : BitVec 3) : Statement (.commitDigestRead offset) := by
  simp [Statement, Instr.wf, Instr.operandsInRow]

theorem spiFrameEnd : Statement .spiFrameEnd := by
  simp [Statement, Instr.wf, Instr.operandsInRow]

theorem arbitrationRound (req : BitVec 8) (thr : Bool) (started : Option (List Nibble)) :
    Statement (.arbitrationRound req thr started) := by
  cases started <;> simp [Statement, Instr.wf, Instr.operandsInRow, showsSender]

theorem priChange (asserted : Bool) : Statement (.priChange asserted) := by
  simp [Statement, Instr.wf, Instr.operandsInRow]

theorem transferEnd (rest : List Nibble) (mrs : Bool) : Statement (.transferEnd rest mrs) := by
  simp [Statement, Instr.wf, Instr.operandsInRow]

theorem checkWindowClose (ack : BitVec 8) (flt : Bool) :
    Statement (.checkWindowClose ack flt) := by
  simp [Statement, Instr.wf, Instr.operandsInRow]

theorem mrsRelease : Statement .mrsRelease := by
  simp [Statement, Instr.wf, Instr.operandsInRow]

theorem restartEpisodeBegin : Statement .restartEpisodeBegin := by
  simp [Statement, Instr.wf, Instr.operandsInRow]

theorem restartEpisodeEnd : Statement .restartEpisodeEnd := by
  simp [Statement, Instr.wf, Instr.operandsInRow]

theorem application : Statement .application := by
  simp [Statement, Instr.wf, Instr.operandsInRow]

theorem snapshotBuild : Statement .snapshotBuild := by
  simp [Statement, Instr.wf, Instr.operandsInRow]

theorem viewCopy : Statement .viewCopy := by
  simp [Statement, Instr.wf, Instr.operandsInRow]

theorem findStep : Statement .findStep := by
  simp [Statement, Instr.wf, Instr.operandsInRow]

theorem syncTimerExpiry : Statement .syncTimerExpiry := by
  simp [Statement, Instr.wf, Instr.operandsInRow]

theorem recordStartWithoutRound (started : List Nibble) :
    Statement (.recordStartWithoutRound started) := by
  simp [Statement, Instr.wf, Instr.operandsInRow, showsSender]

theorem ackOrFltOutOfWindow : Statement .ackOrFltOutOfWindow := by
  simp [Statement, Instr.wf, Instr.operandsInRow]

end Sys2Proof.Laws.WellFormedRow
end

