-- ==== Sys2Proof/Laws/Replica.lean ====
section
/-!
SUPPORT. What an application does with its entry, case by case (R29, R30), the steps of it that
change nothing, and the lists in which claims are ordered (R13, R43).
-/
namespace Sys2Proof.Machine

/-! ### Tables and folds -/

/-- A table rebuilt from its own entries is that table. -/
theorem tab_getElem {α : Type} {n : Nat} (v : Vector α n) : tab (fun i : Fin n => v[i]) = v := by
  apply Vector.ext
  intro i h
  simpa using getElem_tab (fun i : Fin n => v[i]) ⟨i, h⟩

/-- A fold whose every step changes nothing changes nothing. -/
theorem foldl_fixed {α β : Type} (f : β → α → β) (l : List α) (w : β) (h : ∀ a, f w a = w) :
    l.foldl f w = w := by
  induction l with
  | nil => rfl
  | cons a l ih => rw [List.foldl_cons, h, ih]

/-- A sum over the entries of a table where each is 0. -/
theorem sumOver_zero (n : Nat) (f : Fin n → Nat) (h : ∀ i, f i = 0) : sumOver n f = 0 := by
  have : (upTo n).map f = (upTo n).map (fun _ => 0) := by simp [funext h]
  simp [sumOver, this]

/-! ### Steps that change nothing (R30) -/

/-- Where no pool was touched and no pass is owed, steps 4 and 5 change nothing (R35 to R37). -/
theorem Work.admission_untouched (me : StationNo) (now : CommitNo) (after ended : Bool) (w : Work)
    (ht : ∀ p : PoolNo, w.touched[p] = false)
    (hd : ended = false ∨ ∀ p : PoolNo, w.pools[p].due = false) :
    w.admission me now after ended = w := by
  have h4 : (upTo 8).foldl (fun v p => v.admissionFor me now after p) w = w :=
    foldl_fixed _ _ _ fun p => by simp [Work.admissionFor, ht p]
  simp only [Work.admission, h4]
  split
  · rcases hd with hd | hd
    · simp_all
    · exact foldl_fixed _ _ _ fun p => by unfold Work.owedFor; rw [hd p]; rfl
  · rfl

/-- No station is gone at an entry that drops no one and is no LEAVE. -/
theorem goneAt_none (e : ApplyEntry) (hd : e.drop = []) (hk : e.record.body.kind ≠ .leave)
    (k : StationNo) : goneAt e k = false := by
  simp [goneAt, hd, hk]

/-- Where no station is gone, step 1 changes nothing (R32). -/
theorem Engine.dropStep_nothing (gone : StationNo → Bool) (g : Engine) (h : ∀ k, gone k = false) :
    g.begin.dropStep gone g.horizon g.installed = g.begin := by
  have hf : ∀ i, freedAt gone g.horizon g.slots i = false := by
    intro i; unfold freedAt; split <;> simp [h]
  have ho : ∀ p st i, freedOf gone g.horizon g.slots p st i = none := by
    intro p st i; simp [freedOf, hf]
  have hu : ∀ p, freedUnitsOf gone g.horizon g.slots p = 0 := by
    intro p; exact sumOver_zero _ _ fun i => by simp [ho]
  have hw : ∀ p, freedWaitingOf gone g.horizon g.slots p = 0 := by
    intro p; simp [freedWaitingOf, countOver, ho]
  have hp : ∀ p, freesInPool gone g.horizon g.slots p = false := by
    intro p; simp [freesInPool, hf]
  have zb : tab (fun _ : PoolNo => false) = Vector.replicate 8 false := by decide
  have zn : tab (fun _ : PoolNo => 0) = Vector.replicate 8 0 := by decide
  have slots : tab (fun i => if freedAt gone g.horizon g.slots i then none else g.slots[i]) =
      g.slots := (congrArg tab (funext fun i => by simp [hf i])).trans (tab_getElem g.slots)
  have pools : tab (fun p : PoolNo => if g.installed[p] then
        { g.pools[p] with
          granted := g.pools[p].granted -
            BitVec.ofNat 16 (freedUnitsOf gone g.horizon g.slots p)
          waiting := g.pools[p].waiting - freedWaitingOf gone g.horizon g.slots p }
      else g.pools[p]) = g.pools :=
    (congrArg tab (funext fun p => by simp [hu p, hw p])).trans (tab_getElem g.pools)
  simp only [Work.dropStep, Engine.begin, hu, hw, hp, zb, zn, Work.mk.injEq]
  exact ⟨by simpa only [hu, hw] using pools, slots, trivial, trivial, trivial, trivial⟩

/-! ### What an application does with its entry (R29, Table 9) -/

/-- With the apply queue empty nothing is applied. -/
theorem State.application_empty (s : State) (h : s.bus.applyQueue = []) : s.application = s := by
  simp [State.application, h]

/-- The head of the apply queue leaves it and is applied; then the request unit may choose. -/
theorem State.application_cons (s : State) (e : ApplyEntry) (rest : List ApplyEntry)
    (h : s.bus.applyQueue = e :: rest) : s.application =
      State.choose (State.applyEntry e { s with bus := { s.bus with applyQueue := rest } }) := by
  simp [State.application, h]

/-- An application takes the head off the apply queue and changes nothing else of the bus unit. -/
theorem State.application_bus (s : State) :
    s.application.bus = { s.bus with applyQueue := s.bus.applyQueue.tail } := by
  rcases h : s.bus.applyQueue with _ | ⟨e, rest⟩
  · rw [State.application_empty s h, List.tail_nil, ← h]
  · rw [State.application_cons s e rest h]; simp

@[simp] theorem State.application_control (s : State) :
    s.application.control = s.control := by
  unfold State.application; split <;> simp

@[simp] theorem State.application_pending (s : State) :
    s.application.pending = s.pending := by
  unfold State.application; split <;> simp

@[simp] theorem State.application_request_lrq (s : State) :
    s.application.request.lrq = s.request.lrq := by
  unfold State.application; split <;> simp

/-- An application leaves an own record as it is (R147). -/
theorem State.application_own (s : State) (own : s.request.own ≠ none) :
    s.application.request.own = s.request.own := by
  unfold State.application
  split
  · rfl
  · rw [State.choose_of_own]
    · simp
    · simpa using own

/-! ### The applications before the win of the entry AUDIT (R138, log entry 26) -/

/-- When a SNAP-END addressed to this station is still to be applied. -/
theorem State.snapEndWaits_iff (s : State) : s.snapEndWaits = true ↔
    ∃ e ∈ s.bus.applyQueue, e.record.body.kind = .snapEnd ∧
      e.record.body.target = some s.me := by
  simp [State.snapEndWaits, Record.addressedTo]

/-- What every application keeps holds after any number of them. -/
theorem State.applyThroughSnapEnd_keeps (P : State → Prop)
    (step : ∀ s, P s → P s.application) (n : Nat) (s : State) (h : P s) :
    P (s.applyThroughSnapEnd n) := by
  induction n generalizing s with
  | zero => exact h
  | succ n ih =>
    unfold State.applyThroughSnapEnd
    split
    · exact ih _ (step s h)
    · exact h

/-- What every application keeps holds before a win. -/
theorem State.beforeWin_keeps (P : State → Prop) (step : ∀ s, P s → P s.application) (s : State)
    (h : P s) : P s.beforeWin := by
  unfold State.beforeWin
  split
  · exact State.applyThroughSnapEnd_keeps P step _ s h
  · exact h

/-- Every win but the entry AUDIT's finds the engine as it stands. -/
theorem State.beforeWin_of_other (s : State) (h : s.ownIsEntryAudit = false) :
    s.beforeWin = s := by
  simp [State.beforeWin, h]

/-- With the SNAP-END applied nothing comes before the win. -/
theorem State.beforeWin_of_applied (s : State) (h : s.snapEndWaits = false) :
    s.beforeWin = s := by
  unfold State.beforeWin
  split
  · cases s.bus.applyQueue.length <;> simp [State.applyThroughSnapEnd, h]
  · rfl

/-- After enough applications no SNAP-END waits. -/
theorem State.applyThroughSnapEnd_applied (n : Nat) (s : State)
    (h : s.bus.applyQueue.length ≤ n) : (s.applyThroughSnapEnd n).snapEndWaits = false := by
  induction n generalizing s with
  | zero =>
    have empty : s.bus.applyQueue = [] := List.eq_nil_of_length_eq_zero (by omega)
    simp [State.applyThroughSnapEnd, State.snapEndWaits, empty]
  | succ n ih =>
    unfold State.applyThroughSnapEnd
    split
    · refine ih _ ?_
      rw [State.application_bus]
      simp only [List.length_tail]
      omega
    · simpa using ‹¬ s.snapEndWaits = true›

/-- The entry AUDIT wins with its SNAP-END applied (R138). -/
theorem State.beforeWin_applied (s : State) (h : s.ownIsEntryAudit = true) :
    s.beforeWin.snapEndWaits = false := by
  simp only [State.beforeWin, h, if_true]
  exact State.applyThroughSnapEnd_applied _ s le_rfl

/-- What comes before the win of the entry AUDIT begins with one application. -/
theorem State.beforeWin_application (s : State) (audit : s.ownIsEntryAudit = true)
    (waits : s.snapEndWaits = true) : s.beforeWin = s.application.beforeWin := by
  have own : s.request.own ≠ none := by
    intro none; simp [State.ownIsEntryAudit, none] at audit
  have same : s.application.ownIsEntryAudit = true := by
    unfold State.ownIsEntryAudit; rw [State.application_own s own]; exact audit
  have some : s.bus.applyQueue ≠ [] := by
    intro empty; simp [State.snapEndWaits, empty] at waits
  obtain ⟨e, rest, queue⟩ := List.exists_cons_of_ne_nil some
  have length : s.application.bus.applyQueue.length = rest.length := by
    rw [State.application_bus, queue]; rfl
  simp only [State.beforeWin, audit, same, if_true, length, queue, List.length_cons,
    State.applyThroughSnapEnd, waits]

/-- The bus unit before a win is as it was but for the apply queue. -/
theorem State.beforeWin_bus (s : State) :
    s.beforeWin.bus = { s.bus with applyQueue := s.beforeWin.bus.applyQueue } :=
  State.beforeWin_keeps
    (fun t => t.bus = { s.bus with applyQueue := t.bus.applyQueue })
    (fun t h => by rw [State.application_bus, h]) s rfl

@[simp] theorem State.beforeWin_control (s : State) : s.beforeWin.control = s.control :=
  State.beforeWin_keeps (fun t => t.control = s.control) (fun t h => by simpa using h) s rfl

@[simp] theorem State.beforeWin_pending (s : State) : s.beforeWin.pending = s.pending :=
  State.beforeWin_keeps (fun t => t.pending = s.pending) (fun t h => by simpa using h) s rfl

@[simp] theorem State.beforeWin_request_lrq (s : State) :
    s.beforeWin.request.lrq = s.request.lrq :=
  State.beforeWin_keeps (fun t => t.request.lrq = s.request.lrq) (fun t h => by simpa using h) s rfl

/-- The own record before its win is the one that was chosen. -/
theorem State.beforeWin_own (s : State) (own : s.request.own ≠ none) :
    s.beforeWin.request.own = s.request.own :=
  State.beforeWin_keeps (fun t => t.request.own = s.request.own)
    (fun t h => by rw [State.application_own t (by rw [h]; exact own), h]) s rfl

/-! ### The entries, case by case -/

/-- The own JOIN's entry founds when the freeze is not in force after it (R46). -/
theorem State.applyEntry_founding (e : ApplyEntry) (s : State) (hk : e.record.body.kind = .join)
    (hs : e.record.sender = s.me) (hf : e.freezeAfter = false) :
    s.applyEntry e = { s with engine := s.engine.found } := by
  simp [State.applyEntry, hk, hs, hf]

/-- A current replica takes the seven steps at every entry but the own JOIN's (R29). -/
theorem State.applyEntry_current (e : ApplyEntry) (s : State) (hc : s.engine.current = true)
    (h : ¬ (e.record.body.kind = .join ∧ e.record.sender = s.me)) :
    s.applyEntry e = s.applySteps e := by
  simp [State.applyEntry, h, hc]

/-- A SNAP-HEAD at its target that is not void takes the seven steps (R29, R132). -/
theorem State.applyEntry_head (e : ApplyEntry) (s : State) (hk : e.record.body.kind = .snapHead)
    (ht : e.record.addressedTo s.me = true) (hv : e.isVoid = false) :
    s.applyEntry e = s.applySteps e := by
  simp [State.applyEntry, hk, ht, hv]

/-- Every other entry leaves a replica that is not current as it is (R29). -/
theorem State.applyEntry_skip (e : ApplyEntry) (s : State) (hc : s.engine.current = false)
    (hj : ¬ (e.record.body.kind = .join ∧ e.record.sender = s.me ∧ e.freezeAfter = false))
    (hh : ¬ (e.record.body.kind = .snapHead ∧ e.record.addressedTo s.me = true ∧
      e.isVoid = false)) : s.applyEntry e = s := by
  unfold State.applyEntry
  split
  · rename_i h
    rcases hf : e.freezeAfter with _ | _
    · exact absurd ⟨h.1, h.2, hf⟩ hj
    · rfl
  · rw [if_neg (by simp only [hc, Bool.false_eq_true, or_false]; exact hh)]

/-- The engine after the seven steps is that of the steps on the tables alone (R30). -/
@[simp] theorem State.applySteps_engine (e : ApplyEntry) (s : State) :
    (s.applySteps e).engine = (s.engine.applySteps s.me e).engine := by
  simp [State.applySteps]

@[simp] theorem State.applySteps_bus (e : ApplyEntry) (s : State) :
    (s.applySteps e).bus = s.bus := by
  simp [State.applySteps]

@[simp] theorem State.applySteps_control (e : ApplyEntry) (s : State) :
    (s.applySteps e).control = s.control := by
  simp [State.applySteps]

/-- Whatever the steps did, the digest is that of the tables they left (R14, R15). -/
theorem Engine.applySteps_digest (me : StationNo) (e : ApplyEntry) (g : Engine) :
    (g.applySteps me e).engine.digest =
      digestOf (g.applySteps me e).engine.pools (g.applySteps me e).engine.slots := rfl

/-- The engine commit counter takes the entry's number (R20). -/
@[simp] theorem Engine.applySteps_commit (me : StationNo) (e : ApplyEntry) (g : Engine) :
    (g.applySteps me e).engine.commit = e.commit := rfl

/-! ### Lists put in order (R13, R43) -/

/-- An insertion keeps the elements. -/
theorem insertBefore_perm {α : Type} (ahead : α → α → Bool) (x : α) (l : List α) :
    (insertBefore ahead x l).Perm (x :: l) := by
  induction l with
  | nil => exact List.Perm.refl _
  | cons y ys ih =>
    unfold insertBefore
    split
    · exact List.Perm.refl _
    · exact (List.Perm.cons y ih).trans (List.Perm.swap x y ys)

/-- A list put in order has the same elements. -/
theorem orderBy_perm {α : Type} (ahead : α → α → Bool) (l : List α) :
    (orderBy ahead l).Perm l := by
  induction l with
  | nil => exact List.Perm.refl _
  | cons x xs ih => exact (insertBefore_perm ahead x _).trans (List.Perm.cons x ih)

/-- An insertion into an ordered list leaves it ordered, where the order is total on what is
compared and transitive. -/
theorem insertBefore_pairwise {α : Type} (ahead : α → α → Bool) (x : α) (l : List α)
    (total : ∀ y ∈ l, ahead x y = false → ahead y x = true)
    (trans : ∀ y ∈ l, ∀ z ∈ l, ahead x y = true → ahead y z = true → ahead x z = true)
    (h : l.Pairwise (fun y z => ahead y z = true)) :
    (insertBefore ahead x l).Pairwise (fun y z => ahead y z = true) := by
  induction l with
  | nil => simp [insertBefore]
  | cons y ys ih =>
    have hy := List.pairwise_cons.mp h
    unfold insertBefore
    split
    · rename_i hxy
      refine List.pairwise_cons.mpr ⟨fun z hz => ?_, h⟩
      rcases List.mem_cons.mp hz with rfl | hz
      · exact hxy
      · exact trans y (by simp) z (by simp [hz]) hxy (hy.1 z hz)
    · rename_i hxy
      refine List.pairwise_cons.mpr ⟨fun z hz => ?_, ih
        (fun z hz => total z (by simp [hz]))
        (fun a ha b hb => trans a (by simp [ha]) b (by simp [hb])) hy.2⟩
      rcases List.mem_cons.mp ((insertBefore_perm ahead x ys).mem_iff.mp hz) with rfl | hz
      · exact total y (by simp) (by simpa using hxy)
      · exact hy.1 z hz

/-- The claims of a pool in a state, with their slots. -/
theorem mem_claimsOf (slots : Vector (Option Claim) 64) (p : PoolNo) (st : ClaimState)
    (i : SlotNo) (c : Claim) :
    (i, c) ∈ claimsOf slots p st ↔ slots[i] = some c ∧ c.pool = p ∧ c.state = st := by
  unfold claimsOf
  simp only [List.mem_filterMap, mem_upTo, true_and]
  constructor
  · rintro ⟨j, hj⟩
    rcases hs : slots[j] with _ | d
    · simp [hs] at hj
    · simp only [hs] at hj
      split at hj
      · simp only [Option.some.injEq, Prod.mk.injEq] at hj
        obtain ⟨rfl, rfl⟩ := hj
        simp_all
      · cases hj
  · rintro ⟨hs, hp, ht⟩
    exact ⟨i, by simp [hs, hp, ht]⟩

/-- The wait line holds the WAITING claims of the pool (R13). -/
theorem mem_waitLine (now : CommitNo) (slots : Vector (Option Claim) 64) (p : PoolNo)
    (i : SlotNo) (c : Claim) :
    (i, c) ∈ waitLine now slots p ↔ slots[i] = some c ∧ c.pool = p ∧ c.state = .waiting := by
  rw [waitLine, (orderBy_perm _ _).mem_iff, mem_claimsOf]

end Sys2Proof.Machine
end

