-- ==== Sys2Proof/Tests/Slice0.lean ====
section
/-!
SUPPORT. The model's own tests: which commands are well formed, one or two steps of each command on
a small state, and for every statement with hypotheses a concrete state and operands that meet them
(each clause at a boundary of its range).
-/
namespace Sys2Proof.Tests
set_option Elab.async false
open Sys2Proof.Machine

/-! ### Small states -/

/-- The state that a command leaves, when it leaves one. -/
def after (c : Instr) (s : State) : State :=
  match exec c s with
  | .next t => t
  | .fault _ => s
  | .refused _ => s

/-- Stations 2, 3 and 5 ACTIVE. -/
def three : Roster := #v[.absent, .absent, .active, .active, .absent, .active, .absent, .absent]

/-- Stations 2, 3 and 5 ACTIVE, station 6 SYNCING. -/
def threeAndOne : Roster :=
  #v[.absent, .absent, .active, .active, .absent, .active, .syncing, .absent]

/-- A station on the bus, LOCKED and in step, not yet of the group: CONFIG, number 3. -/
def onBus : State :=
  { State.reset with
    bus := { BusUnit.reset with station := 3, locked := true, inStep := true }
    host := { HostPort.reset with site := 0x1234#16 } }

/-- Station 3 ACTIVE beside stations 2 and 5, commit 40. -/
def member : State :=
  { onBus with
    bus := { onBus.bus with roster := three, commit := 40#32, turn := 2, joinCommit := 7#32 }
    control := { Controller.reset with station := .active }
    engine := { Engine.reset with
      current := true, commit := 40#32, historyRunning := true
      history := [(40#32, emptyDigest)] } }

/-- Station 2 ACTIVE in the same group: the lowest-numbered, so the donor under a freeze. -/
def donor : State :=
  { member with
    bus := { member.bus with station := 2, roster := threeAndOne, syncList := [6] }
    request := { RequestUnit.reset with cursor := Cursor.headFor (some 6) } }

/-- Station 3 under a freeze: station 6 is synchronizing. -/
def frozen : State :=
  { member with bus := { member.bus with roster := threeAndOne, syncList := [6] } }

/-- Station 3 JOINING with its JOIN on the bus. -/
def joining : State :=
  { onBus with
    control := { Controller.reset with station := .joining }
    request := { RequestUnit.reset with
      own := some { Own.fresh .join with cond := .onBus, won := true } } }

/-- Station 3 SYNCING / AWAITING. -/
def syncing : State :=
  { onBus with
    bus := { onBus.bus with commit := 1#32 }
    control := { Controller.reset with station := .syncing, syncTimer := .running 200 } }

/-- Station 3 SYNCING / LOADING, at the head of the sync list of stations 2 and 5. -/
def loading : State :=
  { syncing with
    bus := { syncing.bus with
      commit := 50#32, syncList := [3]
      roster := #v[.absent, .absent, .active, .syncing, .absent, .active, .absent, .absent]
      tracker := { Tracker.idle with phase := .loading } }
    control := { syncing.control with phase := .loading } }

/-- A request and the own record it becomes. -/
def claimRequest : Request := ⟨0x77#8, .claim 1 5#16 2 true 0x09#8⟩

def claimRecord : Record := ⟨3, .claim 1 5#16 2 true 0x09#8⟩

/-- An own ordinary record on the bus. -/
def ownClaim : Own := ⟨.ordinary claimRequest false, .onBus, true, 0, 0, claimRecord.bytes⟩

/-- The state with an own record; its place is reserved when it is ordinary. -/
def withOwn (o : Own) (s : State) : State :=
  { s with request := { s.request with
      own := some o, reserved := if o.what.kind.ordinary then 1 else 0 } }

/-- The state in the check window of a record. -/
def inWindow (d : Drive) (r : Record) (own : Bool) (s : State) : State :=
  { s with bus := { s.bus with openList := [⟨r.bytes, own, false⟩], window := some d } }

/-- The state with an entry at the head of its apply queue. -/
def withEntry (e : ApplyEntry) (s : State) : State :=
  { s with bus := { s.bus with applyQueue := [e] } }

/-- The entry of a record with no drop. -/
def entryOf (n : CommitNo) (r : Record) : ApplyEntry := ⟨n, r, [], false, false, false⟩

/-- A HELD and a WAITING claim of station 3 in pool 1. -/
def heldClaim : Claim := ⟨.held, 3, 1, 5#16, 2, 0x09#8, 20#32, some 20#32, false⟩

def waitingClaim : Claim := ⟨.waiting, 3, 1, 5#16, 1, 0x0A#8, 21#32, none, false⟩

/-- Tables with those claims in slots 0 and 1, pool 1 of capacity 8. -/
def tables : Work :=
  { pools := put emptyPools 1 ⟨8#16, 5#16, 1, false⟩
    slots := put (put emptySlots 0 (some heldClaim)) 1 (some waitingClaim)
    touched := Vector.replicate 8 false
    marks := Vector.replicate 64 none
    freedUnits := Vector.replicate 8 0
    freedWaiting := Vector.replicate 8 0 }

/-- Nibbles of a record's start, its sender field among them. -/
def startOf (r : Record) : List Nibble := (nibblesOfBytes r.bytes).take 4

/-! ### Well-formed commands -/

theorem test_wf_controlOther : Instr.wf (.controlOther 0x01#8) = false ∧
    Instr.wf (.controlOther 0x04#8) = false ∧ Instr.wf (.controlOther 0x00#8) = true ∧
    Instr.wf (.controlOther 0x05#8) = true := by decide

theorem test_wf_registerWrite : Instr.wf (.registerWrite (.write 0x08#7) 0x00#8) = false ∧
    Instr.wf (.registerWrite (.write 0x1C#7) 0x00#8) = false ∧
    Instr.wf (.registerWrite (.write 0x12#7) 0x03#8) = true ∧
    Instr.wf (.registerWrite (.write 0x7F#7) 0x03#8) = true ∧
    Instr.wf (.registerWrite (.read 0x27#7) 0x00#8) = false ∧
    Instr.wf (.registerWrite (.read 0x28#7) 0x00#8) = true ∧
    Instr.wf (.registerWrite (.read 0x08#7) 0x00#8) = true := by decide

theorem test_wf_starts : Instr.wf (.arbitrationRound 0x01#8 false (some [3#4, 0#4])) = false ∧
    Instr.wf (.arbitrationRound 0x01#8 false none) = true ∧
    Instr.wf (.recordStartWithoutRound [3#4, 0#4]) = false ∧
    Instr.wf (.recordStartWithoutRound [3#4, 0#4, 1#4]) = true := by decide

/-! ### Codes -/

theorem test_crc16_check_value :
    crc16 [0x31#8, 0x32#8, 0x33#8, 0x34#8, 0x35#8, 0x36#8, 0x37#8, 0x38#8, 0x39#8] =
      0x29B1#16 := by decide +kernel

theorem test_crc32_check_value :
    crc32 [0x31#8, 0x32#8, 0x33#8, 0x34#8, 0x35#8, 0x36#8, 0x37#8, 0x38#8, 0x39#8] =
      0xCBF43926#32 := by decide +kernel

theorem test_release_bytes : (Record.bytes ⟨5, .release 12 0x07#8⟩).take 4 =
    [0x04#8, 0x05#8, 0x0C#8, 0x07#8] := by decide +kernel

theorem test_record_lengths : [Body.leave, .release 0 0#8, .join 0#16, .setcap 0 0#16,
      .trim 0 0#8 1#16, .claim 0 1#16 0 false 0#8, .snapPool 0 0 Pool.zero, .audit 0#32 0#32,
      .snapClaim 0 0 heldClaim, .snapHead 0 0#32 three [], .snapEnd 0 0].map
      (fun b => (Record.bytes ⟨1, b⟩).length) = [4, 6, 6, 7, 8, 9, 11, 12, 21, 11, 5] := by
  decide +kernel

theorem test_no_word_spells_a_command : decodeTableWord 8 0x01 = none := rfl

/-! ### The step and the queue; resets, pins, lock and step -/

theorem test_meets_StepRunsTheFrontCommandElseIdles : onBus.pending = [] := rfl

theorem test_front_command_runs :
    step { onBus with pending := [.quietBus, .start] } =
      exec .quietBus { onBus with pending := [.start] } := rfl

theorem test_meets_ResetLeavesTheSpecsValues :
    (0x00#7 : Addr) ≠ 0x05#7 ∧ (0x7F#7 : Addr) ≠ 0x05#7 ∧
    State.peek 0x00#7 State.reset = 0x4E#8 ∧ State.peek 0x7F#7 State.reset = 0x00#8 := by
  decide +kernel

theorem test_meets_StationNumberIsSampledAtReleaseAndHeld :
    exec .quietBus onBus = .next onBus ∧ Instr.quietBus ≠ .pinReset ∧
    (∀ straps, Instr.quietBus ≠ .resetRelease straps) := ⟨rfl, by decide, nofun⟩

theorem test_resetRelease : (after (.resetRelease 5#3) State.reset).bus.station = 5 ∧
    State.peek 0x05#7 (after (.resetRelease 5#3) State.reset) = 0x05#8 := by decide +kernel

theorem test_pinReset : after .pinReset member = State.reset := by decide +kernel

theorem test_reinit : (after .reinit member).bus.station = 3 ∧
    (after .reinit member).bus.locked = true ∧ (after .reinit member).control.station = .config ∧
    (after .reinit member).host.lastCmd.source = .none := by decide +kernel

theorem test_meets_LockGainAndQuietBusStartTheBusUnit :
    State.reset.bus.locked = false ∧
    (after .lockGain State.reset).bus.locked = true ∧
    (after .lockGain State.reset).bus.inStep = false := by decide +kernel

theorem test_lockGain_then_quietBus :
    (after .quietBus (after .lockGain State.reset)).bus.inStep = true ∧
    (after .lockGain State.reset).host.events = 0x0080#16 := by decide +kernel

theorem test_meets_LockLossStopsTheBusUnit :
    (member.bus.locked = true ∧ member.control.member = true) ∧
    (joining.bus.locked = true ∧ joining.control.station = .joining) ∧
    (onBus.bus.locked = true ∧ onBus.control.station = .config) ∧
    (after .lockLoss member).bus.locked = false := by decide +kernel

/-- A station OUTSIDE whose record of the earlier membership is still on the bus. -/
def outsideWithClaim : State :=
  withOwn ownClaim { onBus with control := { onBus.control with station := .outside } }

theorem test_meets_LockLoss_with_own_records :
    (∀ own ∈ [ownClaim, { ownClaim with cond := .chosen },
        Own.fresh (.ordinary claimRequest false)],
      (withOwn own member).request.held = none ∧ (withOwn own member).bus.locked = true ∧
      (withOwn own member).control.member = true ∧
      (after .lockLoss (withOwn own member)).request.completions.length =
        if own.won then 1 else 0) ∧
    (outsideWithClaim.bus.locked = true ∧ outsideWithClaim.control.station = .outside ∧
      (after .lockLoss outsideWithClaim).request.completions =
        [⟨0x77#8, 0x03#8, .cancelled, none, .none, none⟩]) := by decide +kernel

theorem test_lockLoss_exit : (after .lockLoss member).control.exitCause = .lockLost ∧
    State.peek 0x0A#7 (after .lockLoss member) = 0x03#8 := by decide +kernel

theorem test_meets_OutOfStepTakesNoPart : (State.reset.bus.locked = false ∧
      State.reset.takesPartInStep) ∧ (after .lockGain State.reset).bus.inStep = false ∧
    (let s := after (.registerWrite .select 0x00#8) member;
      s.spiInOrder ∧ s.host.sdo = some 0x00#8) := by
  unfold State.takesPartInStep State.spiInOrder; decide +kernel

/-! ### Commands of CONTROL -/

theorem test_meets_StartEntersJoiningOrIsIgnored :
    (onBus.control.station = .config ∧ onBus.bus.locked = true ∧ onBus.request.own = none) ∧
    (∃ s : State, s.control.station = .outside ∧ s.bus.locked = true ∧ s.request.own ≠ none) ∧
    ¬ ((member.control.station = .config ∨ member.control.station = .outside) ∧
      member.bus.locked = true) ∧ State.reset.bus.locked = false :=
  ⟨by decide +kernel, ⟨{ joining with control := { joining.control with station := .outside } },
    by decide +kernel, by decide +kernel, by decide +kernel⟩, by decide +kernel, by decide +kernel⟩

theorem test_start : (after .start onBus).control.station = .joining ∧
    (after .start onBus).request.own = some (Own.fresh .join) ∧
    State.peek 0x09#7 (after .start onBus) = 0x09#8 := by decide +kernel

theorem test_meets_LeaveAndSyncTimeoutTakeTheStationOut :
    (member.control.station = .active ∧ member.ownOnBus = none) ∧
    (syncing.control.station = .syncing ∧ (withOwn ownClaim member).ownOnBus ≠ none) ∧
    (joining.control.station = .joining ∧ joining.joinWon = true) ∧
    ((after .start onBus).control.station = .joining ∧ (after .start onBus).joinWon = false) ∧
    onBus.control.station = .config ∧
    (syncing.control.syncTimer = .running 200 ∧ syncing.ownOnBus = none) ∧
    member.control.syncTimer = .stopped := by decide +kernel

/-- Station 3 ACTIVE with a held CLAIM. -/
def withHeld : State :=
  { member with request := { member.request with
      held := some { ownClaim with cond := .chosen }, reserved := 1 } }

theorem test_meets_Leave_with_own_records :
    (∀ own ∈ [{ ownClaim with cond := .chosen }, Own.fresh (.ordinary claimRequest false)],
      (withOwn own member).control.station = .active ∧ own.cond = .chosen ∧
      (withOwn own member).request.held = none ∧
      (after .leave (withOwn own member)).request.completions.length =
        if own.won then 1 else 0) ∧
    (withHeld.control.station = .active ∧ withHeld.request.own = none ∧
      (after .leave withHeld).request.completions =
        [⟨0x77#8, 0x03#8, .cancelled, none, .none, none⟩]) := by decide +kernel

theorem test_leave : (after .leave member).control.station = .leaving ∧
    (after .leave member).reqDriven = true ∧ (after .leave member).priDriven = true := by
  decide +kernel

theorem test_sync_timeout : (after .syncTimerExpiry syncing).control.leaveReason = .syncTimeout ∧
    (after .syncTimerExpiry syncing).control.phaseKept = true ∧
    State.peek 0x04#7 (after .syncTimerExpiry syncing) = 0x0F#8 := by decide +kernel

/-- Station 3 ACTIVE with one request, chosen and not yet won. -/
def requesting : State :=
  { member with request := { member.request with
      lrq := [claimRequest], own := some (Own.fresh (.ordinary claimRequest false))
      reserved := 1 } }

theorem test_meets_WithdrawEmptiesTheQueueOfRequests :
    (requesting.headChosen = true ∧ requesting.control.station = .active ∧
      requesting.request.held = none ∧ requesting.request.auditDue = false) ∧
    ((withOwn ownClaim member).request.own ≠ none ∧
      (withOwn ownClaim member).headChosen = false) := by decide +kernel

theorem test_withdraw : (after .withdraw requesting).request = RequestUnit.reset ∧
    State.peek 0x09#7 (after .withdraw requesting) = 0x1B#8 := by decide +kernel

theorem test_meets_SiteIsWrittenInConfigAndUnknownCommandsIgnored :
    onBus.control.station = .config ∧ member.control.station ≠ .config ∧
    ((0x00#8 : Byte) ≠ 0x01#8 ∧ (0x05#8 : Byte) ≠ 0x04#8) := by decide +kernel

theorem test_siteWrite : (after (.siteWrite true 0xAB#8) onBus).host.site = 0xAB34#16 ∧
    (after (.siteWrite true 0xAB#8) member).host.site = 0x1234#16 := by decide +kernel

theorem test_controlOther : (after (.controlOther 0x05#8) onBus).host.lastCmd =
    ⟨.other, false, 0⟩ := by decide +kernel

/-! ### Registers -/

/-- Station 3 with every flag set and one enabled. -/
def flagged : State :=
  { member with host := { member.host with events := 0x07FF#16, mask := 0x0001#16 } }

theorem test_meets_EventsAreClearedByWritingOnes : flagged.reservedRead0 ∧
    (∀ i, 11 ≤ i → i < 16 → flagged.host.events.getLsbD i = false) := by
  refine ⟨by unfold State.reservedRead0; decide +kernel, fun i h h' => ?_⟩
  interval_cases i <;> decide

theorem test_eventsClear :
    (after (.eventsClear false 0xFE#8) flagged).host.events = 0x0701#16 ∧
    (after (.eventsClear true 0xFF#8) flagged).host.events = 0x00FF#16 := by decide +kernel

theorem test_meets_MaskHoldsOneEnableForEachFlag : flagged.reservedRead0 := by
  unfold State.reservedRead0; decide +kernel

theorem test_evmaskWrite :
    State.peek 0x0F#7 (after (.evmaskWrite true 0xFF#8) flagged) = 0x07#8 := by decide +kernel

theorem test_meets_IntFollowsSetAndEnabledFlags :
    (flagged.reservedRead0 ∧ flagged.intAsserted = true) ∧
    flagged.host.mask.getLsbD Event.completion.position = true ∧
    flagged.host.mask.getLsbD Event.donation.position = false := by
  refine ⟨⟨by unfold State.reservedRead0; decide +kernel, ?_⟩, ?_, ?_⟩ <;> decide +kernel

theorem test_meets_EventsAreReadFromOneLatch :
    (after (.eventsRead false) flagged).host.frame = some ⟨true, 0x0D#7⟩ ∧
    (after (.eventsRead false) flagged).host.eventsLatch = some 0x07FF#16 ∧
    flagged.host.eventsLatch = none ∧ flagged.reservedRead0 := by
  refine ⟨?_, ?_, ?_, by unfold State.reservedRead0; decide +kernel⟩ <;> decide +kernel

theorem test_eventsRead :
    (after (.eventsRead true) (after (.eventsRead false) flagged)).host.sdo = some 0x07#8 := by
  decide +kernel

theorem test_meets_ViewSelAndFindGoStartTheirWork :
    (0x49#8 : Byte).toNat ≤ 0x49 ∧ 0x49 < (0x4A#8 : Byte).toNat ∧
    (member.engine.scan = none ∧
      member.host.find.first.toNat ≤ min member.host.find.last.toNat 63) ∧
    (after (.findGo 0x00#8) member).engine.scan ≠ none ∧
    (let s := after (.registerWrite (.write 0x17#7) 0x40#8) member;
      s.engine.scan = none ∧ min s.host.find.last.toNat 63 < s.host.find.first.toNat) := by
  decide +kernel

theorem test_viewSel : (after (.viewSel 0x49#8) member).engine.viewPending = some 0x49#8 ∧
    (after (.viewSel 0x4A#8) member).engine.viewPending = none := by decide +kernel

theorem test_findGo : (after (.findGo 0x00#8) member).engine.findResult.code = .running ∧
    (after (.findGo 0x00#8) (after (.registerWrite (.write 0x17#7) 0x40#8) member)).engine.findResult.code =
      .emptyWindow := by decide +kernel

/-- Seven bytes of a CLAIM request have been written. -/
def sevenWritten : State :=
  { member with host := { member.host with
      selected := true, frame := some ⟨false, 0x12#7⟩, sdo := some 0x00#8
      requestBytes := [0x03#8, 0x77#8, 0x01#8, 0x12#8, 0x05#8, 0x00#8, 0x09#8] } }

theorem test_meets_RegisterWritesReachTheirRegister :
    (hasOwnRow 0x17#7 = false ∧ hasOwnRow 0x1B#7 = false ∧ hasOwnRow 0x00#7 = false ∧
      hasOwnRow 0x7F#7 = false ∧ (0x13#7 : Addr) ≠ 0x12#7 ∧ hasOwnRow 0x13#7 = false) ∧
    member.host.frame ≠ some ⟨false, 0x12#7⟩ ∧
    (∃ s : State, s.host.frame = some ⟨false, 0x12#7⟩ ∧ s.host.requestBytes.length = 6) :=
  ⟨by decide +kernel, by decide +kernel,
    { sevenWritten with host := { sevenWritten.host with
        requestBytes := sevenWritten.host.requestBytes.take 6 } }, by decide +kernel,
    by decide +kernel⟩

theorem test_registerWrite :
    (after (.registerWrite (.write 0x1B#7) 0xFF#8) member).host.find.masks = 0xF7#8 ∧
    (after (.registerWrite (.write 0x12#7) 0x03#8) member).host.requestBytes = [0x03#8] := by
  decide +kernel

/-- Station 3 with CS asserted and a command byte for a read from the last address. -/
def reading : State :=
  after (.registerWrite .byte 0xFF#8) (after (.registerWrite .select 0x00#8) member)

theorem test_meets_RegisterWrites_reads_and_frames :
    (hasReadRow 0x04#7 = false ∧ hasReadRow 0x28#7 = false ∧ hasReadRow 0x7F#7 = false ∧
      hasReadRow 0x0B#7 = false ∧ (0x28#7 : Addr).toNat = 0x28) ∧
    member.host.selected = false ∧
    (let s := after (.registerWrite .select 0x00#8) member;
      s.host.selected = true ∧ s.host.frame = none) ∧
    (reading.host.selected = true ∧ reading.host.frame = some ⟨true, 0x7F#7⟩) ∧
    (sevenWritten.host.selected = true ∧ sevenWritten.host.frame = some ⟨false, 0x12#7⟩) := by
  decide +kernel

theorem test_frame : (after (.registerWrite .byte 0x00#8) reading).host.frame =
      some ⟨true, 0x00#7⟩ ∧
    (after (.registerWrite .byte 0x00#8) (after (.registerWrite .byte 0x00#8) reading)).host.sdo =
      some 0x4E#8 := by decide +kernel

theorem test_meets_EighthByteSubmitsTheRequest :
    (sevenWritten.host.frame = some ⟨false, 0x12#7⟩ ∧
      sevenWritten.host.requestBytes.length = 7) ∧
    sevenWritten.request.lrq.length < 8 ∧ 0 < sevenWritten.request.freePlaces ∧
    parseRequest (sevenWritten.host.requestBytes ++ [0x00#8]) = some claimRequest ∧
    parseRequest (sevenWritten.host.requestBytes ++ [0x01#8]) = none ∧
    (let full : State := { sevenWritten with request := { sevenWritten.request with
        lrq := List.replicate 8 claimRequest, reserved := 8 } };
      8 ≤ full.request.lrq.length ∧ full.request.freePlaces = 0) := by decide +kernel

theorem test_requestSubmit : (after (.requestSubmit 0x00#8) sevenWritten).request.lrq =
    [claimRequest] ∧ (after (.requestSubmit 0x00#8) sevenWritten).reqDriven = true ∧
    State.peek 0x10#7 (after (.requestSubmit 0x00#8) sevenWritten) = 0x07#8 := by decide +kernel

/-- Station 3 with one completion to read. -/
def completed : State :=
  { member with request := { member.request with
      completions := [⟨0x77#8, 0x03#8, .held, some 4, .claimState .held, some 41#32⟩] } }

/-- The state after `n` bytes have been read. -/
def readTimes (c : Instr) : Nat → State → State
  | 0, s => s
  | n + 1, s => readTimes c n (after c s)

theorem test_meets_CompletionIsTakenAtTheTenthByte :
    (let p := portInEffect 0x13#7 completed completed.host.compRead
        completed.request.completions.head?;
      p.pointer < 9 ∧ p.latch ≠ none) ∧
    (let s := withOwn ownClaim (readTimes .completionTake 9 completed);
      let p := portInEffect 0x13#7 s s.host.compRead s.request.completions.head?;
      9 ≤ p.pointer ∧ p.latch ≠ none ∧ s.request.own ≠ none) ∧
    (let s := { readTimes .completionTake 10 member with request := completed.request };
      let p := portInEffect 0x13#7 s s.host.compRead s.request.completions.head?;
      10 ≤ p.pointer ∧ p.latch = none ∧ s.request.completions ≠ []) := by
  decide +kernel

theorem test_completionTake :
    (after .completionTake completed).host.sdo = some 0x77#8 ∧
    (readTimes .completionTake 3 completed).host.sdo = some 0x81#8 ∧
    (readTimes .completionTake 10 completed).request.completions = [] := by decide +kernel

/-- Station 3 with a notice marked in slot 12. -/
def noticed : State :=
  { member with engine := { member.engine with
      notices := put member.engine.notices 12 (some ⟨.bumped, 0x01020304#32⟩) } }

theorem test_meets_NoticeIsTakenAtTheSixthByte :
    (portInEffect 0x14#7 noticed noticed.host.noticeRead
      (firstNotice noticed.engine.notices)).pointer ≠ 5 ∧
    (let s := readTimes .noticeTake 5 noticed;
      let p := portInEffect 0x14#7 s s.host.noticeRead (firstNotice s.engine.notices);
      p.pointer = 5 ∧ p.latch = some (12, ⟨.bumped, 0x01020304#32⟩) ∧
      s.engine.notices[(12 : SlotNo)] = some ⟨.bumped, 0x01020304#32⟩) ∧
    (let s : State := { readTimes .noticeTake 5 noticed with
        engine := { noticed.engine with
          notices := put noticed.engine.notices 12 (some ⟨.admitted, 5#32⟩) } };
      s.host.frame = some ⟨true, 0x14#7⟩ ∧
      s.engine.notices[(12 : SlotNo)] = some ⟨.admitted, 5#32⟩) := by
  decide +kernel

theorem test_noticeTake : (readTimes .noticeTake 2 noticed).host.sdo = some 0x02#8 ∧
    (readTimes .noticeTake 3 noticed).host.sdo = some 0x04#8 ∧
    firstNotice (readTimes .noticeTake 6 noticed).engine.notices = none := by decide +kernel

theorem test_meets_PortsReadFromTheirLatchWithinAFrame :
    (let s := readTimes .viewPortRead 21 member;
      let p := portInEffect 0x16#7 s s.host.viewRead s.engine.viewBuffer;
      p.latch.length ≤ p.pointer) ∧
    (let s := readTimes .findPortRead 15 member;
      let p := portInEffect 0x1D#7 s s.host.findRead s.engine.findResult;
      p.latch.bytes.length ≤ p.pointer) ∧
    (let s := readTimes .auditPortRead 14 member;
      14 ≤ (portInEffect 0x1E#7 s s.host.auditRead s.engine.auditRecord).pointer) ∧
    (after (.commitDigestRead 0#3) member).host.frame = some ⟨true, 0x4#4 ++ 1#3⟩ ∧
    (after (.commitDigestRead 0#3) member).host.commitLatch = some (40#32, emptyDigest) ∧
    member.host.commitLatch = none := by decide +kernel

theorem test_ports : (after .viewPortRead member).host.sdo = some 0x00#8 ∧
    (readTimes .findPortRead 4 member).host.sdo = some 0xFF#8 ∧
    (after .auditPortRead member).host.sdo = some 0x00#8 ∧
    (after (.commitDigestRead 0#3) member).host.sdo = some 0x28#8 := by decide +kernel

theorem test_spiFrameEnd : (after .spiFrameEnd sevenWritten).host.requestBytes = [] ∧
    (after .spiFrameEnd sevenWritten).host.sdo = none := by decide +kernel

/-! ### Arbitration and transfer -/

theorem test_meets_RoundsNeedAFreeBusAndPickTheFirstRequester :
    winnerOf 7 0x81#8 = some 0 ∧ winnerOf 6 0x81#8 = some 7 ∧ winnerOf 3 0x00#8 = none ∧
    (∃ s : State, s.thrDriven = true) ∧ (∃ s : State, s.bus.restart = true) ∧
    (∃ s : State, s.bus.inTransfer ≠ none) ∧
    (∃ s : State, ∃ o ∈ s.bus.openList, o.exclusive = true) :=
  ⟨by decide, by decide, by decide,
    ⟨{ member with bus := { member.bus with
        applyQueue := List.replicate 5 (entryOf 1#32 claimRecord) } }, by decide +kernel⟩,
    ⟨{ member with bus := { member.bus with restart := true } }, rfl⟩,
    ⟨{ member with bus := { member.bus with inTransfer := some ⟨2, [], false, false, false, false⟩ } },
      by decide +kernel⟩,
    ⟨inWindow .flt ⟨2, .snapEnd 3 0⟩ false member, ⟨_, List.mem_cons_self, by decide +kernel⟩⟩⟩

theorem test_meets_AnothersWinStartsItsRecord :
    member.bus.locked = true ∧ member.bus.inStep = true ∧ member.freeToStart false = true ∧
    winnerOf member.bus.turn (member.reqLines 0x20#8) = some 5 ∧ (5 : StationNo) ≠ member.me ∧
    (senderNibble (startOf ⟨5, .leave⟩)).bind stationOfNibble = some 5 ∧
    startExclusive (startOf ⟨5, .leave⟩) = false ∧
    (startExclusive (startOf ⟨5, .snapEnd 3 0⟩) = true ∧ member.bus.openList = []) := by
  decide +kernel

theorem test_meets_OwnWinFixesTheContents :
    (requesting.freeToStart false = true ∧
      requesting.request.own = some (Own.fresh (.ordinary claimRequest false)) ∧
      requesting.reqDriven = true ∧
      winnerOf requesting.bus.turn (requesting.reqLines 0x04#8) = some requesting.me ∧
      (senderNibble (startOf claimRecord)).bind stationOfNibble = some requesting.me ∧
      startExclusive (startOf claimRecord) = false) ∧
    (let s := withOwn { ownClaim with cond := .chosen } member;
      s.reqDriven = true ∧ s.freeToStart false = true ∧
      winnerOf s.bus.turn (s.reqLines 0x00#8) = some s.me) := by decide +kernel

/-- Station 3 ACTIVE with the entry AUDIT chosen and its SNAP-END still to be applied. -/
def auditing : State :=
  withEntry (entryOf 41#32 ⟨2, .snapEnd 3 0⟩)
    (withOwn (Own.fresh (.ordinary ⟨0xFF#8, .audit⟩ true)) member)

theorem test_meets_OwnWin_of_the_entry_audit :
    auditing.freeToStart false = true ∧ auditing.snapEndWaits = true ∧
    auditing.request.own = some (Own.fresh (.ordinary ⟨0xFF#8, .audit⟩ true)) ∧
    auditing.reqDriven = true ∧
    winnerOf auditing.bus.turn (auditing.reqLines 0x00#8) = some auditing.me ∧
    (after .application auditing).snapEndWaits = false := by decide +kernel

theorem test_entry_audit_wins_with_its_snapEnd_applied :
    let t := after (.arbitrationRound 0x00#8 false none) auditing;
    t.request.own.map (·.contents) = some (Record.bytes ⟨3, .audit 41#32 emptyDigest⟩) ∧
    t.engine.commit = 41#32 ∧ t.bus.applyQueue = [] ∧ after .application t = t := by
  decide +kernel

theorem test_arbitrationRound :
    (let t := after (.arbitrationRound 0x00#8 false (some (startOf claimRecord))) requesting;
      t.bus.turn = 3 ∧ t.dataDriven = true ∧ t.request.lrq = [] ∧ t.reqDriven = false) ∧
    (after (.arbitrationRound 0x20#8 false (some (startOf ⟨5, .leave⟩))) member).bus.turn = 5 := by
  decide +kernel

theorem test_meets_PriHoldsBackOtherKinds :
    (after (.priChange true) (after .leave member)).reqDriven = true ∧
    (after (.priChange true) requesting).reqDriven = false := by decide +kernel

theorem test_pins :
    let t := after (.arbitrationRound 0x00#8 false (some (startOf claimRecord))) requesting;
    t.dataDriven = true ∧ t.pullsLow 0 .frm = true ∧ t.pullsLow 0 (.data 0) = true ∧
    t.pullsLow 0 (.data 2) = false ∧ requesting.pullsLow 0 (.req 3) = true ∧
    requesting.pullsLow 0 (.req 2) = false ∧ wiredHigh 0 (.req 3) [member, requesting] = false ∧
    (nibblesOfBytes claimRecord.bytes)[0]? = some 3#4 ∧
    t.request.own.map (·.contents) = some claimRecord.bytes := by decide +kernel

/-- Station 3 while station 5's RELEASE is in transfer. -/
def receiving : State :=
  after (.arbitrationRound 0x20#8 false (some (startOf ⟨5, .release 12 0x07#8⟩))) member

/-- The nibbles of that record after those of its start. -/
def releaseRest : List Nibble := (nibblesOfBytes (Record.bytes ⟨5, .release 12 0x07#8⟩)).drop 4

theorem test_meets_CompleteRecordJoinsTheOpenList :
    let x : Transfer := ⟨5, startOf ⟨5, .release 12 0x07#8⟩, false, false, false, false⟩;
    receiving.bus.inTransfer = some x ∧ receiving.bus.locked = true ∧
    receiving.bus.inStep = true ∧ receiving.bus.mrsDrive = false ∧ x.barred = false ∧
    (x.received ++ releaseRest).length % 2 = 0 ∧
    allowedLength ((x.received ++ releaseRest).length / 2) = true ∧
    receiving.bus.openList.length < 4 ∧ (senderNibble x.received).isSome = true ∧
    senderDiffers x.received x.winner = false ∧ receiving.bus.window = none := by
  decide +kernel

theorem test_meets_CompleteRecord_under_a_window :
    (inWindow .flt ⟨5, .release 12 0x07#8⟩ false receiving).bus.window = some .flt ∧
    (inWindow .flt ⟨5, .release 12 0x07#8⟩ false receiving).bus.openList.length < 4 := by
  decide +kernel

theorem test_transferEnd :
    (after (.transferEnd releaseRest false) receiving).bus.window =
      some (.ack ⟨5, .release 12 0x07#8⟩) ∧
    (after (.transferEnd [] false) receiving).mrsDriven = true := by decide +kernel

theorem test_meets_MemberAnswersViolationsWithMrs :
    (member.bus.locked = true ∧ member.bus.inStep = true ∧ member.bus.restart = false ∧
      member.control.member = true ∧ member.bus.inTransfer = none) ∧
    (onBus.control.member = false ∧ onBus.bus.inStep = true ∧ onBus.bus.restart = false) ∧
    (let x : Transfer := ⟨5, startOf ⟨5, .release 12 0x07#8⟩, false, false, false, false⟩;
      receiving.bus.inTransfer = some x ∧ receiving.control.member = true ∧
      receiving.bus.restart = false ∧
      allowedLength (receivedLength (x.received ++ [])) = false ∧
      senderDiffers x.received 4 = true) ∧
    (let s : State := { receiving with bus := { receiving.bus with
        openList := List.replicate 4 ⟨[], false, false⟩ } };
      4 ≤ s.bus.openList.length ∧ s.bus.inTransfer ≠ none) ∧
    (let s : State := { member with bus := { member.bus with restart := true } };
      s.control.member = true ∧ s.bus.restart = true) := by decide +kernel

theorem test_meets_MemberAnswersViolations_at_a_round :
    (member.freeToStart false = true ∧
      winnerOf member.bus.turn (member.reqLines 0x20#8) = some 5 ∧
      senderDiffers (startOf ⟨2, .leave⟩) 5 = true) ∧
    (let s : State := { member with bus := { member.bus with openList := [⟨[], false, false⟩] } };
      s.freeToStart false = true ∧ winnerOf s.bus.turn (s.reqLines 0x20#8) = some 5 ∧
      startExclusive (startOf ⟨5, .snapEnd 3 0⟩) = true ∧ s.bus.openList ≠ []) ∧
    (let s := after (.arbitrationRound 0x20#8 false (some (startOf ⟨2, .leave⟩))) member;
      s.mrsDriven = true ∧ (s.bus.inTransfer.map (·.barred)) = some true ∧ s.bus.turn = 2) ∧
    (after (.arbitrationRound 0x20#8 false none) member).mrsDriven = true := by decide +kernel

theorem test_recordStartWithoutRound :
    (after (.recordStartWithoutRound (startOf ⟨5, .leave⟩)) member).mrsDriven = true ∧
    (after (.recordStartWithoutRound (startOf ⟨5, .leave⟩)) member).bus.turn = 5 := by
  decide +kernel

theorem test_ackOrFltOutOfWindow : (after .ackOrFltOutOfWindow member).mrsDriven = true ∧
    (after .ackOrFltOutOfWindow onBus).mrsDriven = false := by decide +kernel

/-! ### Check windows -/

theorem test_meets_EvaluationDrivesAckOrFlt :
    onBus.control.member = false ∧ member.control.member = true ∧
    (member.control.awaiting = false ∧ member.control.loading = false) ∧
    parseRecord [0x00#8] = none ∧
    parseRecord (Record.bytes ⟨5, .release 12 0x07#8⟩) = some ⟨5, .release 12 0x07#8⟩ ∧
    ((withOwn ownClaim member).request.own = some ownClaim ∧
      parseRecord claimRecord.bytes = some claimRecord ∧ ownClaim.contents = claimRecord.bytes) ∧
    (syncing.control.awaiting = true ∧ syncing.control.member = true) ∧
    (loading.control.loading = true ∧ loading.control.awaiting = false ∧
      (Body.snapEnd loading.me 64).target = some loading.me ∧
      (Body.snapClaim 4 0 heldClaim).target ≠ some loading.me) := by
  decide +kernel

theorem test_tracker :
    let x := Tracker.restart.commit 3 ⟨2, .snapClaim 3 7 heldClaim⟩ [] false;
    let y := x.commit 3 ⟨2, .snapPool 3 1 ⟨9#16, 5#16, 1, false⟩⟩ [3] false;
    x.phase = .loading ∧ x.lastSlot = some 7 ∧ x.received = 1 ∧
    x.tally[(1 : PoolNo)][(3 : StationNo)] = ⟨5, 0⟩ ∧
    y.tally[(1 : PoolNo)][(3 : StationNo)] = ⟨0, 0⟩ ∧ y.figures[(1 : PoolNo)] = some ⟨0, 1⟩ ∧
    y.nextPool = 1 ∧ (y.commit 3 ⟨2, .snapEnd 3 1⟩ [] false) = Tracker.idle := by decide +kernel

theorem test_checks : driveFor member ⟨Record.bytes ⟨4, .release 0 0#8⟩, false, false⟩ = .flt ∧
    driveFor member ⟨Record.bytes ⟨5, .release 0 0#8⟩, false, true⟩ = .flt ∧
    driveFor member ⟨Record.bytes ⟨4, .join 0x1234#16⟩, false, false⟩ =
      .ack ⟨4, .join 0x1234#16⟩ := by decide +kernel

/-- Station 3 in the check window of station 5's RELEASE. -/
def inRelease : State :=
  inWindow (.ack ⟨5, .release 12 0x07#8⟩) ⟨5, .release 12 0x07#8⟩ false member

theorem test_meets_AbortChangesNothingCommitted :
    inRelease.bus.window = some (.ack ⟨5, .release 12 0x07#8⟩) ∧
    inRelease.bus.openList = [⟨Record.bytes ⟨5, .release 12 0x07#8⟩, false, false⟩] ∧
    lineOf 0x08#8 inRelease.me = true ∧ inRelease.request.own = none ∧
    (inWindow .flt ⟨5, .leave⟩ false (withOwn ownClaim member)).request.own ≠ none := by
  decide +kernel

/-- Station 3 in the window of a RELEASE, with an AUDIT of another station open behind it. -/
def inPipeline (s : State) : State :=
  { s with bus := { s.bus with
      window := some (.ack ⟨5, .release 12 0x07#8⟩)
      openList := [⟨Record.bytes ⟨5, .release 12 0x07#8⟩, false, false⟩,
        ⟨Record.bytes ⟨2, .audit 40#32 0#32⟩, false, false⟩] } }

theorem test_next_window_opens :
    (after (.checkWindowClose 0x2C#8 true) (inPipeline member)).bus.window =
      some (.ack ⟨2, .audit 40#32 0#32⟩) ∧
    (after (.checkWindowClose 0x28#8 false) (inPipeline member)).bus.window = some .flt ∧
    (after (.checkWindowClose 0x2C#8 false) inRelease).bus.window = none := by decide +kernel

theorem test_meets_OrdinaryCommit_while_leaving :
    let s := { inRelease with control := { inRelease.control with station := .leaving } };
    s.control.station = .leaving ∧ s.control.phaseKept = false ∧
    s.bus.window = some (.ack ⟨5, .release 12 0x07#8⟩) ∧ s.bus.openList.length = 1 := by
  decide +kernel

theorem test_meets_OrdinaryCommitIsNumberedAndQueued :
    inRelease.control.station = .active ∧ inRelease.control.phaseKept = false ∧
    inRelease.bus.roster[inRelease.me] = .active ∧
    inRelease.bus.window = some (.ack ⟨5, .release 12 0x07#8⟩) ∧
    inRelease.bus.openList = [⟨Record.bytes ⟨5, .release 12 0x07#8⟩, false, false⟩] ∧
    lineOf 0x28#8 inRelease.me = true ∧ (Body.release 12 0x07#8).kind.ordinary = true ∧
    dropSet inRelease.me inRelease.bus.roster 0x28#8 = [2] := by decide +kernel

theorem test_checkWindowClose_drops_the_silent :
    (after (.checkWindowClose 0x28#8 false) inRelease).bus.commit = 41#32 ∧
    (after (.checkWindowClose 0x28#8 false) inRelease).bus.roster[(2 : StationNo)] = .absent ∧
    (after (.checkWindowClose 0x28#8 true) inRelease).bus.commit = 40#32 := by decide +kernel

/-- Station 2, the donor to be, and station 3 in the check window of station 6's JOIN. -/
def inJoin (k : StationNo) : State :=
  inWindow (.ack ⟨6, .join 0x1234#16⟩) ⟨6, .join 0x1234#16⟩ false
    { member with bus := { member.bus with station := k } }

theorem test_meets_JoinCommitBeginsTheFreeze :
    (inJoin 2).control.station = .active ∧ (inJoin 2).control.phaseKept = false ∧
    (inJoin 2).bus.roster[(inJoin 2).me] = .active ∧ (6 : StationNo) ≠ (inJoin 2).me ∧
    (6 : StationNo) ∉ (inJoin 2).bus.syncList ∧
    (inJoin 2).bus.window = some (.ack ⟨6, .join 0x1234#16⟩) ∧
    (inJoin 2).bus.openList = [⟨Record.bytes ⟨6, .join 0x1234#16⟩, false, false⟩] ∧
    lineOf 0x2C#8 (inJoin 2).me = true ∧ (inJoin 2).freeze = false ∧
    (inJoin 2).isDonor = false ∧
    (after (.checkWindowClose 0x2C#8 false) (inJoin 2)).isDonor = true := by decide +kernel

/-- The window of a record of another station, with a roster and a sync list. -/
def inWindowUnder (r : Record) (roster : Roster) (list : List StationNo) (s : State) : State :=
  inWindow (.ack r) r false { s with bus := { s.bus with roster := roster, syncList := list } }

theorem test_meets_LeaveAndSnapEndCommits :
    (let s := inWindowUnder ⟨2, .leave⟩ threeAndOne [6] member;
      s.control.station = .active ∧ s.control.phaseKept = false ∧ s.bus.roster[s.me] = .active ∧
      (2 : StationNo) ≠ s.me ∧ s.bus.syncList.Nodup ∧ lineOf 0x68#8 s.me = true ∧
      s.isDonor = false ∧ (after (.checkWindowClose 0x68#8 false) s).isDonor = true) ∧
    (let s := inWindowUnder ⟨2, .snapEnd 6 0⟩ threeAndOne [6] member;
      s.bus.syncList.head? = some 6 ∧ lineOf 0x6C#8 2 = true ∧ s.freeze = true ∧
      (after (.checkWindowClose 0x6C#8 false) s).freeze = false) ∧
    (let s := inWindowUnder ⟨6, .leave⟩ threeAndOne [6] donor;
      s.isDonor = true ∧ (after (.checkWindowClose 0x6C#8 false) s).isDonor = false) := by
  decide +kernel

/-- Station 3 LOADING with station 2 the last ACTIVE station. -/
def lastActiveLeaves : State :=
  inWindowUnder ⟨2, .leave⟩
    #v[.absent, .absent, .active, .syncing, .absent, .absent, .absent, .absent] [3] loading

theorem test_meets_NoDonor :
    lastActiveLeaves.control.loading = true ∧
    lastActiveLeaves.bus.roster[lastActiveLeaves.me] = .syncing ∧
    lastActiveLeaves.me ∈ lastActiveLeaves.bus.syncList ∧ (2 : StationNo) ≠ lastActiveLeaves.me ∧
    lineOf 0x0C#8 lastActiveLeaves.me = true ∧
    (∀ k : StationNo, lastActiveLeaves.bus.roster[k] = .active → k = 2) ∧
    (after (.checkWindowClose 0x0C#8 false) lastActiveLeaves).control.exitCause = .noDonor ∧
    (let s := { lastActiveLeaves with control := { lastActiveLeaves.control with
        station := .leaving, phaseKept := true } };
      s.control.loading = true) := by decide +kernel

theorem test_meets_CommitsWhileAwaiting :
    ∀ r ∈ [(⟨5, .release 12 0x07#8⟩ : Record), ⟨2, .snapPool 6 0 Pool.zero⟩, ⟨6, .join 0x1234#16⟩],
      (let s := inWindow (.ack r) r false syncing;
        s.control.awaiting = true ∧ (∀ k : StationNo, s.bus.roster[k] = .absent) ∧
        s.bus.syncList = [] ∧ r.body.target ≠ some s.me ∧ lineOf 0x0C#8 s.me = true ∧
        (after (.checkWindowClose 0x0C#8 false) s).bus.commit = 2#32) := by decide +kernel

theorem test_meets_CommitsWhileLeaving :
    let s := { loading with control := { loading.control with
      station := .leaving, phaseKept := true, syncTimer := .stopped } };
    (∀ b ∈ [Body.snapEnd 3 0, .snapHead 3 51#32 threeAndOne [3]],
      (inWindow (.ack ⟨2, b⟩) ⟨2, b⟩ false s).control.station = .leaving ∧ (inWindow (.ack ⟨2, b⟩) ⟨2, b⟩ false s).control.phaseKept = true ∧
      (inWindow (.ack ⟨2, b⟩) ⟨2, b⟩ false s).control.phase = .loading ∧ lineOf 0x0C#8 (inWindow (.ack ⟨2, b⟩) ⟨2, b⟩ false s).me = true) ∧
    s.bus.syncList.head? = some s.me ∧ s.bus.syncList.Nodup ∧
    threeAndOne[(2 : StationNo)] = .active ∧
    (after (.checkWindowClose 0x0C#8 false) (inWindow (.ack ⟨2, .snapEnd 3 0⟩) ⟨2, .snapEnd 3 0⟩ false s)).stateByte &&& 0x07#8 =
      0x06#8 := by decide +kernel

theorem test_meets_MissingAckDropsTheStation :
    inRelease.bus.window = some (.ack ⟨5, .release 12 0x07#8⟩) ∧
    inRelease.bus.openList.length = 1 ∧
    lineOf 0x24#8 inRelease.me = false ∧ inRelease.request.own = none ∧
    inRelease.request.held = none ∧
    (inWindow (.ack ⟨5, .leave⟩) ⟨5, .leave⟩ false donor).isDonor = true := by decide +kernel

/-- Station 3 in the check window of station 5's RELEASE, or of a record of its own, with an own
record beside it. -/
def inReleaseWith (o : Own) (own : Bool) : State :=
  inWindow (.ack ⟨5, .release 12 0x07#8⟩) ⟨5, .release 12 0x07#8⟩ own (withOwn o member)

theorem test_meets_MissingAck_with_own_records :
    (let s := inReleaseWith { ownClaim with cond := .chosen } false;
      s.request.own = some { ownClaim with cond := .chosen } ∧ s.request.held = none) ∧
    (let s := inReleaseWith ownClaim false;
      s.request.own = some ownClaim ∧ ownClaim.cond = .onBus ∧ s.request.held = none ∧
      (after (.checkWindowClose 0x24#8 true) s).request.own = some ownClaim) ∧
    (let s := inReleaseWith ownClaim true;
      s.bus.openList.all (·.own) = true ∧
      (after (.checkWindowClose 0x24#8 false) s).request.completions =
        [⟨0x77#8, 0x03#8, .void, none, .none, none⟩] ∧
      (after (.checkWindowClose 0x24#8 true) s).request.completions =
        [⟨0x77#8, 0x03#8, .cancelled, none, .none, none⟩]) ∧
    (let s := inReleaseWith { Own.fresh .leave with cond := .onBus } true;
      s.request.own = some { Own.fresh .leave with cond := .onBus }) ∧
    (let s : State := { inRelease with request := { inRelease.request with
        held := some ownClaim, reserved := 1 } };
      s.request.own = none ∧ s.request.held = some ownClaim) := by decide +kernel

/-- Station 3 in the check window of its own JOIN. -/
def inOwnJoin : State := inWindow .idle ⟨3, .join 0x1234#16⟩ true joining

theorem test_meets_OwnJoinFoundsOrJoins :
    inOwnJoin.control.station = .joining ∧ inOwnJoin.control.leaveHeld = false ∧
    inOwnJoin.bus.window = some .idle ∧
    inOwnJoin.bus.openList = [⟨Record.bytes ⟨3, .join 0x1234#16⟩, true, false⟩] ∧
    inOwnJoin.request.own = some { Own.fresh .join with cond := .onBus, won := true } ∧
    (0x04#8 : BitVec 8) ≠ 0#8 ∧
    (after .leave inOwnJoin).control.leaveHeld = true ∧
    (after .leave inOwnJoin).control.station = .joining ∧
    (after .leave inOwnJoin).bus.window = some .idle ∧
    (after .leave inOwnJoin).request.held = none := by decide +kernel

theorem test_own_join : (after (.checkWindowClose 0x00#8 false) inOwnJoin).control.station =
      .active ∧
    (after (.checkWindowClose 0x04#8 false) inOwnJoin).control.station = .syncing ∧
    (after (.checkWindowClose 0x04#8 false) (after .leave inOwnJoin)).control.stateCode = 7#3 ∧
    (after (.checkWindowClose 0x00#8 false) (after .leave inOwnJoin)).control.stateCode = 6#3 := by
  decide +kernel

/-- Station 3 ACTIVE in the check window of its own CLAIM. -/
def inOwnClaim (o : Own) (s : State) : State :=
  inWindow (.ack claimRecord) claimRecord true (withOwn o s)

/-- Station 3 LEAVING in the check window of its own LEAVE. -/
def inOwnLeave : State :=
  inWindow (.ack ⟨3, .leave⟩) ⟨3, .leave⟩ true
    (withOwn { Own.fresh .leave with cond := .onBus, won := true }
      { member with control := { member.control with station := .leaving } })

/-- The donor in the check window of its own snapshot record. -/
def inOwnSnapshot (b : Body) : State :=
  inWindow (.ack ⟨2, b⟩) ⟨2, b⟩ true
    (withOwn { Own.fresh (.snapshot b) with cond := .onBus, won := true } donor)

theorem test_meets_OwnRecordsCommit_ordinary :
    let s := inOwnClaim ownClaim member;
    s.control.station = .active ∧ s.control.phaseKept = false ∧
    s.bus.roster[s.me] = .active ∧ s.bus.window = some (.ack claimRecord) ∧
    s.bus.openList = [⟨claimRecord.bytes, true, false⟩] ∧ s.request.own = some ownClaim ∧
    ownClaim.what = .ordinary claimRequest false ∧ ownClaim.cond = .onBus ∧
    claimRecord.body.kind.ordinary = true ∧ lineOf 0x2C#8 s.me = true ∧ s.request.lrq = [] ∧
    s.request.held = none ∧ s.request.auditDue = false := by decide +kernel

theorem test_meets_OwnRecordsCommit_leave :
    inOwnLeave.control.station = .leaving ∧
    inOwnLeave.bus.window = some (.ack ⟨3, .leave⟩) ∧
    inOwnLeave.bus.openList = [⟨Record.bytes ⟨3, .leave⟩, true, false⟩] ∧
    inOwnLeave.request.own = some { Own.fresh .leave with cond := .onBus, won := true } ∧
    lineOf 0x2C#8 inOwnLeave.me = true ∧ inOwnLeave.request.held = none ∧
    inOwnLeave.request.outcomes = [] := by decide +kernel

theorem test_meets_OwnRecordsCommit_snapshot :
    ∀ b ∈ [Body.snapHead 6 41#32 threeAndOne [6], .snapClaim 6 63 heldClaim,
      .snapPool 6 6 Pool.zero, .snapPool 6 7 Pool.zero],
    (inOwnSnapshot b).control.station = .active ∧ (inOwnSnapshot b).control.phaseKept = false ∧
    (inOwnSnapshot b).bus.roster[(inOwnSnapshot b).me] = .active ∧
    (inOwnSnapshot b).isDonor = true ∧
    dropSet (inOwnSnapshot b).me (inOwnSnapshot b).bus.roster 0x6C#8 = [] ∧
    (inOwnSnapshot b).bus.window = some (.ack ⟨(inOwnSnapshot b).me, b⟩) ∧
    (inOwnSnapshot b).bus.openList = [⟨Record.bytes ⟨2, b⟩, true, false⟩] ∧
    (inOwnSnapshot b).request.own =
      some { Own.fresh (.snapshot b) with cond := .onBus, won := true } ∧
    lineOf 0x6C#8 (inOwnSnapshot b).me = true := by decide +kernel

theorem test_own_claim_commits :
    (after (.checkWindowClose 0x2C#8 false) (inOwnClaim ownClaim member)).request.outcomes =
      [⟨41#32, 0x03#8, 0x77#8, none⟩] := by decide +kernel

/-- The own CLAIM driven FLT by its sender. -/
def inOwnFault (o : Own) (s : State) : State := inWindow .flt claimRecord true (withOwn o s)

theorem test_meets_AbortsResendThenFail :
    (∀ s ∈ [inOwnFault ownClaim member, inOwnFault ownClaim frozen,
        inOwnFault { ownClaim with faults := 1 } member], s.control.station = .active ∧
      s.bus.window = some .flt ∧ s.bus.openList = [⟨claimRecord.bytes, true, false⟩] ∧
      s.bus.locked = true ∧ s.request.held = none) ∧
    (inOwnFault ownClaim member).freeze = false ∧ (inOwnFault ownClaim frozen).freeze = true ∧
    ({ ownClaim with restarts := 2 } : Own).restarts < 3 ∧
    3 ≤ ({ ownClaim with restarts := 3 } : Own).restarts ∧
    (withOwn { ownClaim with restarts := 3 } member).request.own =
      some { ownClaim with restarts := 3 } := by decide +kernel

theorem test_aborts :
    (after (.checkWindowClose 0x00#8 true) (inOwnFault ownClaim member)).reqDriven = true ∧
    (after .restartEpisodeBegin
      (withOwn { ownClaim with restarts := 3 } member)).request.completions =
      [⟨0x77#8, 0x03#8, .failedBus, none, .none, none⟩] := by decide +kernel

/-- Station 3 JOINING in the window of its own JOIN, with counts. -/
def inJoinWith (faults restarts : Nat) (leaveHeld : Bool) : State :=
  { inOwnJoin with
    control := { inOwnJoin.control with leaveHeld := leaveHeld }
    request := { inOwnJoin.request with
      own := some ⟨.join, .onBus, true, faults, restarts, []⟩ } }

/-- Station 3 LEAVING in the window of its own LEAVE, with counts. -/
def inLeaveWith (faults restarts : Nat) : State :=
  { inOwnLeave with request := { inOwnLeave.request with
      own := some ⟨.leave, .onBus, true, faults, restarts, []⟩ } }

theorem test_meets_Aborts_of_membership_and_snapshot_records :
    (lineOf 0x2C#8 (inOwnClaim ownClaim member).me = true ∧
      (inOwnClaim ownClaim member).bus.window = some (.ack claimRecord) ∧
      (inOwnClaim ownClaim member).control.station = .active) ∧
    (∀ s ∈ [inLeaveWith 0 0, inLeaveWith 1 3], s.control.station = .leaving ∧
      s.request.held = none ∧ s.bus.locked = true ∧ lineOf 0x2C#8 s.me = true) ∧
    (let s := inOwnSnapshot (.snapEnd 6 0);
      s.control.station = .active ∧ s.freeze = true ∧ s.request.held = none ∧
      lineOf 0x2C#8 s.me = true ∧ s.bus.locked = true) ∧
    (∀ s ∈ [inJoinWith 0 0 false, inJoinWith 1 3 false, inJoinWith 0 0 true],
      s.control.station = .joining ∧ s.bus.window = some .idle ∧ s.request.held = none ∧
      s.bus.locked = true) ∧
    (after (.checkWindowClose 0x00#8 true) (inJoinWith 1 0 false)).control.exitCause =
      .joinFailed ∧
    (after (.checkWindowClose 0x00#8 true) (inJoinWith 0 0 true)).control.exitCause = .left ∧
    (after (.checkWindowClose 0x2C#8 true) (inLeaveWith 1 0)).control.station = .outside := by
  decide +kernel

/-- Station 3 AWAITING in the check window of a SNAP-HEAD from station 2, and LOADING in that of a
SNAP-END. -/
def inHead : State :=
  let r : Record := ⟨2, .snapHead 3 51#32
    #v[.absent, .absent, .active, .syncing, .absent, .active, .absent, .absent] [3]⟩
  inWindow (.ack r) r false syncing

def inEnd : State := inWindow (.ack ⟨2, .snapEnd 3 0⟩) ⟨2, .snapEnd 3 0⟩ false loading

theorem test_meets_SnapshotMovesTheJoiner :
    (∀ s ∈ [inHead, inEnd], s.control.station = .syncing ∧ s.bus.openList.length = 1 ∧
      s.bus.openList.any (fun o => o.own) = false ∧ lineOf 0x0C#8 s.me = true ∧
      lineOf 0x0C#8 2 = true ∧ (2 : StationNo) ≠ s.me ∧ s.request.own = none) ∧
    inHead.control.phase = .awaiting ∧ inEnd.control.phase = .loading ∧
    inEnd.bus.window = some (.ack ⟨2, .snapEnd inEnd.me 0⟩) ∧
    inEnd.bus.syncList.head? = some inEnd.me ∧ inEnd.bus.syncList.Nodup ∧
    inEnd.bus.roster[(2 : StationNo)] = .active ∧
    inHead.bus.window = some (.ack ⟨2, .snapHead inHead.me 51#32
      #v[.absent, .absent, .active, .syncing, .absent, .active, .absent, .absent] [3]⟩) := by
  decide +kernel

theorem test_snapshot_records :
    (after (.checkWindowClose 0x0C#8 false) inHead).bus.commit = 51#32 ∧
    (after (.checkWindowClose 0x0C#8 false) inHead).control.phase = .loading ∧
    (after (.checkWindowClose 0x0C#8 false) inEnd).control.station = .active := by decide +kernel

/-- Station 3 LOADING in the check window of a snapshot record from station 2. -/
def inSnap (b : Body) (list : List StationNo) (s : State) : State :=
  inWindow (.ack ⟨2, b⟩) ⟨2, b⟩ false { s with bus := { s.bus with syncList := list } }

theorem test_meets_SnapshotMovesTheJoiner_in_loading :
    (∀ b ∈ [Body.snapHead 3 51#32 threeAndOne [3], .snapClaim 3 0 heldClaim,
        .snapPool 3 7 Pool.zero], b.target = some loading.me ∧
      (inSnap b [3] loading).control.phase = .loading ∧
      (inSnap b [3] loading).bus.window = some (.ack ⟨2, b⟩)) ∧
    loading.bus.roster[(2 : StationNo)] = .active ∧ threeAndOne[(2 : StationNo)] = .active ∧
    (let t := after (.checkWindowClose 0x0C#8 false) (inSnap (.snapEnd 3 0) [3] loading);
      t.freeze = false ∧ 0 < loading.request.freePlaces ∧ loading.request.held = none) ∧
    (let s : State := { loading with request := { loading.request with reserved := 8 } };
      s.request.freePlaces = 0 ∧ s.request.own = none ∧ s.request.held = none) ∧
    (after (.checkWindowClose 0x0C#8 false) (inSnap (.snapEnd 3 0) [3, 6] loading)).freeze =
      true := by decide +kernel

/-- The entry AUDIT is chosen at the SNAP-END's commit and wins with the SNAP-END's number, whether the
APPLICATION or the round is given first (R138, R147). -/
theorem test_entry_audit_follows_its_snapEnd :
    let s := after (.checkWindowClose 0x0C#8 false) { inEnd with engine := member.engine }
    let round := Instr.arbitrationRound 0x00#8 false none;
    s.control.station = .active ∧ s.freeze = false ∧ s.reqDriven = true ∧
    s.request.own.map (·.what) = some (.ordinary ⟨0xFF#8, .audit⟩ true) ∧
    s.bus.applyQueue.map (fun e => e.record.body) = [.snapEnd 3 0] ∧
    (after round s).request.own.map (·.contents) =
      some (Record.bytes ⟨3, .audit s.bus.joinCommit (after round s).engine.digest⟩) ∧
    after round s = after round (after .application s) := by decide +kernel

theorem test_second_head_sets_freeze :
    let s := inSnap (.snapHead 3 51#32 threeAndOne [3]) [3] loading;
    s.host.flag .freeze = false ∧
    (after (.checkWindowClose 0x0C#8 false) s).host.flag .freeze = true := by decide +kernel

/-! ### Restart episodes -/

theorem test_meets_RestartEpisodeRunsItsCourse :
    (requesting.bus.locked = true ∧ requesting.ownOnBus = none ∧ requesting.request.own ≠ none) ∧
    (member.bus.mrsDrive = false ∧ member.bus.locked = true) ∧
    (State.reset.bus.mrsDrive = false ∧ State.reset.bus.locked = false) ∧
    (frozen.ownOnBus = none ∧ frozen.control.station = .active ∧ frozen.freeze = true ∧
      frozen.request.own = none) ∧
    (outsideWithClaim.bus.locked = true ∧ outsideWithClaim.control.station = .outside ∧
      outsideWithClaim.request.own = some ownClaim ∧ outsideWithClaim.request.held = none) := by
  decide +kernel

theorem test_meets_windows_after_an_exit :
    (∀ station ∈ [StationState.outside, .joining],
      (let s := inWindow .idle claimRecord true { outsideWithClaim with
          control := { outsideWithClaim.control with station := station } };
        s.control.station = station ∧ s.bus.window = some .idle ∧
        s.request.own = some ownClaim ∧ ownClaim.cond = .onBus ∧
        (after (.checkWindowClose 0x00#8 false) s).request.completions =
          [⟨0x77#8, 0x03#8, .cancelled, none, .none, none⟩])) := by decide +kernel

theorem test_restart_episode :
    (let s := after .ackOrFltOutOfWindow member;
      s.mrsDriven = true ∧ (after .restartEpisodeEnd s) = s ∧
      (after .mrsRelease s).mrsDriven = false ∧
      (after .restartEpisodeEnd (after .mrsRelease s)).bus.turn = 7) ∧
    (after .restartEpisodeBegin inRelease).bus.openList = [] ∧
    (after .restartEpisodeBegin inRelease).bus.commit = 40#32 := by decide +kernel

/-! ### Applications -/

/-- A RELEASE of station 5 that matches nothing, committed as 41. -/
def staleEntry : ApplyEntry := entryOf 41#32 ⟨5, .release 12 0x07#8⟩

theorem test_meets_ApplicationReportsItsCommit :
    let s := withEntry staleEntry member;
    s.bus.applyQueue = [staleEntry] ∧ s.engine.current = true ∧
    staleEntry.record.body.kind ≠ .join ∧ staleEntry.record.body.kind.exclusive = false ∧
    s.engine.historyRunning = true ∧
    16 ≤ ({ s.engine with history := List.replicate 16 (1#32, 0#32) } : Engine).history.length ∧
    ({ s.engine with historyRunning := false } : Engine).historyRunning = false := by
  decide +kernel

theorem test_application :
    (after .application (withEntry staleEntry member)).engine.commit = 41#32 ∧
    (after .application (withEntry staleEntry member)).engine.history.length = 2 ∧
    after .application member = member := by decide +kernel

/-- Station 3 with the claims and pools of `tables`. -/
def holding : State :=
  { member with engine := { member.engine with pools := tables.pools, slots := tables.slots } }

theorem test_meets_ApplicationReports_notices :
    let e := entryOf 41#32 ⟨5, .setcap 1 0#16⟩;
    (withEntry e holding).bus.applyQueue = [e] ∧ (withEntry e holding).engine.current = true ∧
    e.record.body.kind ≠ .join ∧ e.record.body.kind.exclusive = false ∧
    (workOf 3 e holding.engine).marks[(0 : SlotNo)] = some .ejected ∧
    (workOf 3 e holding.engine).marks[(2 : SlotNo)] = none ∧
    (∀ i : SlotNo, (workOf 3 staleEntry holding.engine).marks[i] = none) := by decide +kernel

/-- The founding entry of station 3, and a SNAP-HEAD addressed to it. -/
def foundingEntry : ApplyEntry := entryOf 1#32 ⟨3, .join 0x1234#16⟩

def headEntry : ApplyEntry := entryOf 51#32 ⟨2, .snapHead 3 51#32 threeAndOne [3]⟩

theorem test_meets_ReplicaBecomesCurrentByFoundingOrSnapshot :
    (foundingEntry.record = ⟨(withEntry foundingEntry syncing).me, .join 0x1234#16⟩ ∧
      foundingEntry.freezeAfter = false) ∧
    (headEntry.record.body = .snapHead (withEntry headEntry syncing).me 51#32 threeAndOne [3] ∧
      headEntry.isVoid = false) ∧
    (syncing.engine.current = false ∧ staleEntry.record.body.kind ≠ .join ∧
      staleEntry.record.body.kind ≠ .snapHead) ∧
    (syncing.engine.current = false ∧ ({ headEntry with isVoid := true } : ApplyEntry).isVoid =
      true) := by decide +kernel

theorem test_founding :
    (after .application (withEntry foundingEntry member)).engine.commit = 1#32 ∧
    (after .application (withEntry headEntry syncing)).engine.horizon = 0 ∧
    (after .application (withEntry staleEntry syncing)).engine = syncing.engine := by
  decide +kernel

theorem test_meets_ClaimIsDecidedInOrder :
    (∀ p : PoolNo, tables.pools[p].granted.toNat ≤ tables.pools[p].capacity.toNat) ∧
    tables.pools[(1 : PoolNo)].capacity.toNat < (9#16).toNat ∧
    (8#16).toNat ≤ tables.pools[(1 : PoolNo)].capacity.toNat ∧
    holdingCount tables.slots 3 = 2 ∧ availableSlot tables.slots 30#32 = some 2 ∧
    availableSlot tables.slots 20#32 = none ∧
    16 ≤ holdingCount (Vector.replicate 64 (some heldClaim)) 3 ∧
    (∃ (i : SlotNo) (c : Claim), tables.slots[i] = some c ∧ c.stamp = 20#32) :=
  ⟨by decide +kernel, by decide +kernel, by decide +kernel, by decide +kernel, by decide +kernel,
    by decide +kernel, by decide +kernel, 0, heldClaim, by decide +kernel⟩

theorem test_claims :
    (tables.claim 30#32 4 1 9#16 3 true 0x00#8).2.outcome = .tooLarge ∧
    (tables.claim 30#32 4 1 3#16 2 true 0x00#8).2.outcome = .held ∧
    (tables.claim 30#32 4 1 3#16 1 true 0x00#8).2.outcome = .waiting ∧
    (tables.claim 30#32 4 1 4#16 3 false 0x00#8).2.outcome = .busy ∧
    (tables.claim 20#32 4 1 3#16 3 false 0x00#8).2.outcome = .full := by decide +kernel

theorem test_meets_SetcapShedsUntilGrantedFits : PoolsAgree tables.pools tables.slots ∧
    (∃ c, tables.slots[(0 : SlotNo)] = some c ∧ c.state = .held ∧ 4 < c.units.toNat) ∧
    (∃ c, tables.slots[(1 : SlotNo)] = some c ∧ c.state = .waiting ∧ c.units.toNat ≤ 5) :=
  ⟨by unfold PoolsAgree; decide +kernel, ⟨heldClaim, by decide +kernel⟩,
    ⟨waitingClaim, by decide +kernel⟩⟩

/-- Two HELD claims in pool 1, in slots 0 (class 2, 5 units) and 1 (class 1, 3 units). -/
def crowded : Work :=
  { tables with
    pools := put emptyPools 1 ⟨8#16, 8#16, 0, false⟩
    slots := put tables.slots 1 (some { waitingClaim with
      state := .held, units := 3#16, heldStamp := some 21#32 }) }

theorem test_meets_Setcap_victims : PoolsAgree crowded.pools crowded.slots ∧
    (crowded.setcap 3 30#32 1 5#16).2 = ⟨.capacitySet, none, .counts 1 0⟩ ∧
    (crowded.setcap 3 30#32 1 5#16).1.slots[(0 : SlotNo)] = some heldClaim ∧
    (crowded.setcap 3 30#32 1 5#16).1.marks[(1 : SlotNo)] = some .bumped := by
  unfold PoolsAgree; decide +kernel

theorem test_setcap :
    (tables.setcap 3 30#32 1 4#16).2 = ⟨.capacitySet, none, .counts 0 2⟩ ∧
    (tables.setcap 3 30#32 1 4#16).1.pools[(1 : PoolNo)] = ⟨4#16, 0#16, 0, false⟩ ∧
    (tables.setcap 3 30#32 1 5#16).1.pools[(1 : PoolNo)] = ⟨5#16, 5#16, 1, false⟩ := by
  decide +kernel

theorem test_meets_AdmissionPassFollowsTheWaitLine :
    tables.slots[(1 : SlotNo)] = some waitingClaim ∧ waitingClaim.pool ≠ 0 ∧
    waitLine 30#32 (tables.pass 3 30#32 1 64).slots 1 = [(1, waitingClaim)] ∧
    (let w := (tables.touch 1).setPool 1 ⟨10#16, 5#16, 1, true⟩;
      w.touched[(1 : PoolNo)] = true ∧ w.pools[(1 : PoolNo)].due = true ∧
      w.touched[(0 : PoolNo)] = false ∧ w.pools[(0 : PoolNo)].due = false ∧
      (w.pass 3 30#32 1 64).slots[(1 : SlotNo)] =
        some { waitingClaim with state := .held, heldStamp := some 30#32 } ∧
      (w.pass 3 30#32 1 64).pools[(1 : PoolNo)] = ⟨10#16, 10#16, 0, true⟩ ∧
      (w.admission 3 30#32 false true).pools[(1 : PoolNo)] = ⟨10#16, 10#16, 0, false⟩ ∧
      (w.admission 3 30#32 true false).pools[(1 : PoolNo)].due = true) := by decide +kernel

theorem test_meets_ReleaseAndTrimChangeTheirSlot :
    (tables.slots[(0 : SlotNo)] = some heldClaim ∧ heldClaim.holder = 3 ∧
      heldClaim.tag = 0x09#8 ∧ heldClaim.state = .held) ∧
    (tables.slots[(1 : SlotNo)] = some waitingClaim ∧ waitingClaim.holder = 3 ∧
      waitingClaim.tag = 0x0A#8 ∧ waitingClaim.state = .waiting) ∧
    heldClaim.units.toNat ≤ (5#16).toNat ∧ (4#16).toNat < heldClaim.units.toNat ∧
    heldClaim.holder ≠ 4 ∧ heldClaim.tag ≠ 0x0A#8 ∧ tables.slots[(63 : SlotNo)] = none := by
  decide +kernel

theorem test_drop_step :
    let v := tables.dropStep (fun k => k == 3) 1 (Vector.replicate 8 true);
    v.slots[(0 : SlotNo)] = none ∧ v.slots[(1 : SlotNo)] = some waitingClaim ∧
    v.pools[(1 : PoolNo)] = ⟨8#16, 0#16, 1, false⟩ ∧ v.touched[(1 : PoolNo)] = true ∧
    ({ staleEntry with isVoid := true } : ApplyEntry).isVoid = true ∧
    goneAt (entryOf 41#32 ⟨5, .leave⟩) 5 = true ∧ goneAt staleEntry 5 = false := by decide +kernel

/-- An AUDIT of station 5 about commit 40, committed as 41. -/
def auditEntry (d : Sys2Proof.Digest) : ApplyEntry := entryOf 41#32 ⟨5, .audit 40#32 d⟩

theorem test_meets_AuditReportsDisagreement :
    (let e := auditEntry (emptyDigest + 1#32);
      e.record.body = .audit 40#32 (emptyDigest + 1#32) ∧ e.isVoid = false ∧ e.drop = [] ∧
      e.freezeEnded = false) ∧ member.engine.current = true ∧
    lookup member.engine.history 40#32 = some emptyDigest ∧
    emptyDigest ≠ emptyDigest + 1#32 ∧ lookup member.engine.history 39#32 = none := by
  decide +kernel

theorem test_audit :
    (after .application (withEntry (auditEntry (emptyDigest + 1#32)) member)).host.flag .disagree =
      true ∧
    (after .application (withEntry (auditEntry emptyDigest) member)).engine.auditRecord = none := by
  decide +kernel

/-- Station 3 with its own AUDIT committed as 41 and another own record on the bus. -/
def ownApplied : State :=
  let s := withEntry (entryOf 41#32 ⟨3, .audit 40#32 emptyDigest⟩) (withOwn ownClaim member)
  { s with request := { s.request with
      outcomes := [⟨41#32, 0x07#8, 0xFF#8, none⟩], reserved := 2 } }

theorem test_meets_AppliedOwnRecordIsCompleted :
    ownApplied.bus.applyQueue = [entryOf 41#32 ⟨3, .audit 40#32 emptyDigest⟩] ∧
    ownApplied.engine.current = true ∧ ownApplied.me = 3 ∧
    (Body.audit 40#32 emptyDigest).kind.ordinary = true ∧
    ownApplied.request.outcomes = [⟨41#32, 0x07#8, 0xFF#8, none⟩] ∧
    ownApplied.request.own = some ownClaim := by decide +kernel

theorem test_own_audit_completes : (after .application ownApplied).request.completions =
    [⟨0xFF#8, 0x07#8, .audited, none, .distance 1#32, some 41#32⟩] := by decide +kernel

theorem test_meets_AppliedOwnRecord_of_each_kind :
    ∀ b ∈ [Body.claim 1 3#16 2 true 0x09#8, .release 0 0x09#8, .trim 1 0x0A#8 1#16, .setcap 1 4#16],
      (let s := withEntry (entryOf 41#32 ⟨3, b⟩) { ownApplied with engine := holding.engine };
        s.engine.current = true ∧ b.kind.ordinary = true ∧ s.request.own = some ownClaim ∧
        s.request.outcomes = [⟨41#32, 0x07#8, 0xFF#8, none⟩] ∧
        (after .application s).request.completions.length = 1) := by decide +kernel

/-- A snapshot record for station 3, committed as 52. -/
def snapEntry (b : Body) : ApplyEntry := entryOf 52#32 ⟨2, b⟩

theorem test_meets_SnapshotRecordsInstallAtTheirTarget :
    ∀ b ∈ [Body.snapClaim 3 0 heldClaim, .snapClaim 3 63 heldClaim, .snapPool 3 7 Pool.zero,
        .snapEnd 3 0],
      (let s := withEntry (snapEntry b) (after .application (withEntry headEntry syncing));
        s.bus.applyQueue = [snapEntry b] ∧ s.engine.current = true ∧
        (snapEntry b).isVoid = false ∧ (snapEntry b).drop = [] ∧
        (snapEntry b).freezeEnded = false ∧ b.target = some s.me ∧ s.engine.history = []) := by
  decide +kernel

theorem test_meets_SnapshotRecords_entry_audit :
    auditing.bus.applyQueue = [entryOf 41#32 ⟨2, .snapEnd 3 0⟩] ∧
    auditing.engine.current = true ∧ auditing.request.own ≠ none := by decide +kernel

/-! ### Builds, views and FIND -/

/-- The donor with its cursor at a phase. -/
def donorAt (c : Cursor) : State := { donor with request := { donor.request with cursor := c } }

/-- The donor with one claim, in slot 63. -/
def donorWithClaim : State :=
  { donorAt ⟨some 6, .claims, 1, 0, 0⟩ with
    engine := { donor.engine with slots := put emptySlots 63 (some heldClaim) } }

theorem test_meets_BuildFollowsTheCursor :
    (∀ c ∈ [Cursor.headFor (some 6), ⟨some 6, .claims, 0, 0, 0⟩, ⟨some 6, .pools, 64, 0, 1⟩,
        ⟨some 6, .pools, 64, 7, 1⟩, ⟨some 6, .finish, 64, 8, 1⟩],
      (donorAt c).buildWanted = true ∧ (donorAt c).request.cursor.target = some 6 ∧
      (c.phase = .pools → c.nextPool < 8)) ∧
    member.buildWanted = false ∧
    nextClaim donor.engine.slots 0 = none ∧
    (donorWithClaim.buildWanted = true ∧
      nextClaim donorWithClaim.engine.slots 1 = some (63, heldClaim)) := by decide +kernel

theorem test_snapshotBuild :
    (after .snapshotBuild donor).request.own =
      some (Own.fresh (.snapshot (.snapHead 6 41#32 threeAndOne [6]))) ∧
    (after .snapshotBuild (donorAt ⟨some 6, .claims, 0, 0, 0⟩)).request.cursor.phase = .pools := by
  decide +kernel

theorem test_meets_choice_of_the_own_record :
    let waits (h : Option Own) (due : Bool) (q : List Request) (n : Nat) : State :=
      { member with request := { member.request with
        held := h, auditDue := due, lrq := q, reserved := n } };
    (∀ s ∈ [waits (some ownClaim) true [claimRequest] 8, waits none true [claimRequest] 7,
        waits none false [claimRequest] 7, waits none true [claimRequest] 8,
        waits none false [] 0], s.request.own = none ∧ s.control.station = .active ∧
      s.freeze = false) ∧
    (waits none true [] 7).request.freePlaces = 1 ∧ (waits none true [] 8).request.freePlaces = 0 ∧
    ((waits none true [claimRequest] 7).choose.request.own.map (·.what)) =
      some (.ordinary ⟨0xFF#8, .audit⟩ true) ∧
    ((waits (some ownClaim) true [claimRequest] 8).choose.request.own.map (·.won)) = some true ∧
    (onBus.request.own = none ∧ syncing.request.own = none ∧ frozen.freeze = true) ∧
    (let s := joining.clearOwn; s.request.own = none ∧ s.control.station = .joining) ∧
    (let s := inOwnLeave.clearOwn; s.request.own = none ∧ s.control.station = .leaving) := by
  decide +kernel

theorem test_meets_ViewCopyWritesTheBufferWhole :
    (∀ v ∈ [0x00#8, 0x3F#8, 0x40#8, 0x47#8, 0x48#8, 0x49#8],
      (after (.viewSel v) member).engine.viewPending = some v ∧
      (after (.viewSel v) member).bus.applyQueue = [] ∧
      (after (.viewSel v) member).buildWanted = false) ∧
    ((0x3F#8 : Byte).toNat = (63 : SlotNo).val ∧ (0x47#8 : Byte).toNat = 64 + (7 : PoolNo).val) ∧
    member.engine.viewPending = none ∧
    (withEntry staleEntry member).bus.applyQueue ≠ [] ∧ donor.buildWanted = true := by
  decide +kernel

theorem test_viewCopy : (after .viewCopy (after (.viewSel 0x48#8) member)).engine.viewBuffer =
    [0x48#8, 0x28#8, 0x00#8, 0x00#8, 0x00#8, 0xA0#8, 0x08#8, 0x07#8, 0x00#8, 0x00#8, 0x00#8] := by
  decide +kernel

/-- A scan for FREE slots with `n` matches so far, at slot `i`. -/
def scanning (i : Nat) (found : List SlotNo) (last : Byte) : State :=
  { member with engine := { member.engine with
      scan := some ⟨⟨0x00#8, last, 0xFF#8, 0xFF#8, 0x01#8⟩, i, found, some 40#32⟩ } }

theorem test_meets_FindStepExaminesOneSlot :
    ((scanning 63 [] 0xFF#8).findTurn = true ∧ min (0xFF#8 : Byte).toNat 63 ≤ 63) ∧
    ((scanning 7 [0, 1, 2, 3, 4, 5, 6] 0x3F#8).findTurn = true ∧ 7 < min (0x3F#8 : Byte).toNat 63 ∧
      8 ≤ ([0, 1, 2, 3, 4, 5, 6] ++ [7] : List SlotNo).length) ∧
    ((scanning 0 [] 0x3F#8).findTurn = true ∧ ([] ++ [0] : List SlotNo).length < 8) ∧
    (withEntry staleEntry (scanning 0 [] 0x3F#8)).findTurn = false := by decide +kernel

theorem test_findStep :
    (after .findStep (scanning 63 [] 0xFF#8)).engine.findResult = ⟨.complete, 0x40#8, [63], 40#32⟩ ∧
    (after .findStep (scanning 7 [0, 1, 2, 3, 4, 5, 6] 0x3F#8)).engine.findResult.code = .full ∧
    (after .findStep (scanning 0 [] 0x3F#8)).host = member.host := by decide +kernel

/-- A member that scans for FIND while a RELEASE of another station is in its ACK window. -/
def yielding (n : Option CommitNo) : State :=
  { inRelease with engine := { inRelease.engine with scan := some ⟨FindFilter.reset, 5, [2], n⟩ } }

theorem test_meets_FindStep_yields (n : Option CommitNo) :
    (yielding n).control.station = .active ∧
    (yielding n).bus.window = some (.ack ⟨5, .release 12 0x07#8⟩) ∧
    lineOf 0x2C#8 (yielding n).me = true :=
  ⟨rfl, rfl, by change lineOf 0x2C#8 inRelease.me = true; decide +kernel⟩

theorem test_find_yields :
    (after (.checkWindowClose 0x2C#8 false) (yielding (some 40#32))).engine.findResult =
      ⟨.yielded, 0x05#8, [2], 40#32⟩ ∧
    (after (.checkWindowClose 0x2C#8 false) (yielding none)).engine.scan ≠ none := by
  decide +kernel

/-! ### Encodings and invariants -/

theorem test_meets_RecordsReadBackWhole :
    Record.formed ⟨7, .snapHead 3 51#32 threeAndOne [0, 1, 2, 3, 4, 5, 6]⟩ = true ∧
    Record.formed ⟨7, .snapPool 3 7 ⟨5#16, 5#16, 64, true⟩⟩ = true ∧
    Record.formed ⟨0, .claim 7 0xFFFF#16 3 true 0xFF#8⟩ = true ∧
    Record.formed ⟨0, .snapClaim 6 63 { waitingClaim with bumped := true, heldStamp := some 1#32 }⟩
      = true := by decide +kernel

theorem test_meets_OnlyEncodingsPassTheFormChecks :
    parseRecord claimRecord.bytes = some claimRecord ∧
    parseRecord (Record.bytes ⟨7, .snapEnd 3 64⟩) = some ⟨7, .snapEnd 3 64⟩ := by decide +kernel

theorem test_form_checks : parseRecord (Record.bytes ⟨7, .snapEnd 3 65⟩) = none ∧
    parseRecord (Record.bytes ⟨7, .trim 0 0#8 0#16⟩) = none ∧
    parseRecord (claimRecord.bytes.set 0 0x04#8) = none := by decide +kernel

theorem test_meets_StepKeeps : flagged.reservedRead0 ∧ member.digestFollows ∧
    sevenWritten.spiInOrder ∧ member.choose = member ∧ (inOwnClaim ownClaim member).placesInStep ∧
    step { member with pending := [.quietBus] } = .next member := by
  refine ⟨?_, ?_, ?_, ?_, ⟨?_, ?_, ?_⟩, rfl⟩
  · unfold State.reservedRead0; decide +kernel
  · unfold State.digestFollows; decide +kernel
  · unfold State.spiInOrder; decide +kernel
  · decide +kernel
  · decide +kernel
  · decide +kernel
  · intro o h; cases h

theorem test_meets_StepKeepsBounds : inRelease.listsBounded := by
  have idle : inRelease.engine.scan = none := by decide +kernel
  refine ⟨by decide +kernel, by decide +kernel, by decide +kernel, by decide +kernel,
    by decide +kernel, by decide +kernel, by decide +kernel, fun scan h => ?_⟩
  rw [idle] at h; cases h

theorem test_meets_StepKeeps_order : inRelease.outsiderHoldsNothing ∧
    inRelease.takesPartInStep ∧ frozen.standingInOrder ∧ frozen.bus.window = none := by
  unfold State.outsiderHoldsNothing State.takesPartInStep State.standingInOrder StandingInOrder
  decide +kernel

theorem test_standings : StandingInOrder threeAndOne [6] ∧
    StandingInOrder Roster.allAbsent [] := by
  unfold StandingInOrder; decide +kernel

theorem test_meets_StepKeepsClaimsFormed : inRelease.recordsFormed ∧ inRelease.claimsFormed := by
  refine ⟨⟨fun r h => ?_, fun e h => ?_⟩, fun i c h => ?_⟩
  · cases h; decide +kernel
  · cases h
  · have key : ∀ j : SlotNo, inRelease.engine.slots[j] = none := by decide +kernel
    rw [key i] at h; cases h

theorem test_meets_StepKeepsMembershipInOrder : inRelease.outsiderHoldsNothing ∧
    inRelease.takesPartInStep ∧ joining.outsiderHoldsNothing ∧ joining.control.member = false := by
  unfold State.outsiderHoldsNothing State.takesPartInStep; decide +kernel

theorem test_meets_ApplicationKeepsPoolsInStep : holding.poolsInStep ∧
    (∀ e ∈ [staleEntry, snapEntry (.snapEnd 3 0)], e.record.body.target = some holding.me →
      e.record.body.kind = .snapEnd) ∧
    auditing.ownIsEntryAudit = true ∧ auditing.snapEndWaits = true ∧
    (∀ e ∈ auditing.bus.applyQueue, e.record.body.target = some auditing.me →
      e.record.body.kind = .snapEnd) := by
  have entries : ∀ e ∈ [staleEntry, snapEntry (.snapEnd 3 0)],
      e.record.body.target = some holding.me → e.record.body.kind = .snapEnd := by
    intro e h
    fin_cases h
    · intro target; cases target
    · intro _; rfl
  refine ⟨?_, entries, by decide +kernel, by decide +kernel, ?_⟩
  · unfold State.poolsInStep PoolsAgree; decide +kernel
  · intro e h _
    rw [show auditing.bus.applyQueue = [entryOf 41#32 ⟨2, .snapEnd 3 0⟩] by decide +kernel,
      List.mem_singleton] at h
    rw [h]; rfl

end Sys2Proof.Tests
end

section
/-!
PROOFS. What the commands keep of the replica, of the host port and of the LRQ: one lemma for each
shared operation, and from them one for every command. The lemmas absorb: from what holds between a
state and a later one they give what holds after one more operation.
-/
namespace Sys2Proof.Machine

/-! ### The effect of a command -/

/-- The state that a command leaves. -/
def effectOf (c : Instr) (s : State) : State :=
  match exec c s with
  | .next t => t
  | .fault _ => s
  | .refused _ => s

/-- Every command answers a next state. -/
theorem exec_eq_effectOf (c : Instr) (s : State) : exec c s = .next (effectOf c s) := by
  cases c <;> rfl

/-- What a step is: idling on an empty queue, else the effect of the front command. -/
theorem step_cases {s t : State} (h : step s = .next t) :
    t = s ∨ ∃ c rest, s.pending = c :: rest ∧ t = effectOf c { s with pending := rest } := by
  unfold step at h
  split at h
  · exact Or.inl (Host.Outcome.next.inj h).symm
  · rename_i c rest queue
    rw [exec_eq_effectOf] at h
    exact Or.inr ⟨c, rest, queue, (Host.Outcome.next.inj h).symm⟩

/-! ### What is kept -/

/-- A running scan and the FIND result keep their bounds (R166). -/
def Engine.scanBounded (g : Engine) : Prop :=
  g.findResult.found.length ≤ Config.findMax ∧
  ∀ scan, g.scan = some scan → scan.next ≤ 63 ∧ scan.found.length < Config.findMax

/-- The replica is as it was: tables, digest, history, horizon and the pools installed; a scan keeps
its bounds. -/
structure Engine.Keeps (g h : Engine) : Prop where
  pools : h.pools = g.pools
  slots : h.slots = g.slots
  digest : h.digest = g.digest
  history : h.history = g.history
  horizon : h.horizon = g.horizon
  installed : h.installed = g.installed
  scan : g.scanBounded → h.scanBounded

/-- Positions of the host port that carry nothing read 0 (R172, R174, Table 42). -/
def HostPort.reservedRead0 (h : HostPort) : Prop :=
  h.events &&& ~~~ flagPositions = 0#16 ∧ h.mask &&& ~~~ flagPositions = 0#16 ∧
  h.find.masks.getLsbD 3 = false

/-- SDO and the frame follow CS (R179, R186). -/
def HostPort.spiInOrder (h : HostPort) : Prop :=
  h.sdo.isSome = h.selected ∧ (h.frame ≠ none → h.selected = true)

/-- The host port keeps its reserved positions, the order of SDO and frame, and the bound of the
bytes of a request (R141). -/
structure HostPort.Keeps (h g : HostPort) : Prop where
  reserved : h.reservedRead0 → g.reservedRead0
  spi : h.spiInOrder → g.spiInOrder
  bytes : h.requestBytes.length ≤ 7 → g.requestBytes.length ≤ 7

/-- Replica, host port and LRQ after an operation that applies nothing. -/
structure State.Quiet (s t : State) : Prop where
  engine : s.engine.Keeps t.engine
  host : s.host.Keeps t.host
  lrq : s.request.lrq.length ≤ Config.lrqMax → t.request.lrq.length ≤ Config.lrqMax

theorem Engine.Keeps.refl (g : Engine) : g.Keeps g := ⟨rfl, rfl, rfl, rfl, rfl, rfl, id⟩

theorem HostPort.Keeps.refl (h : HostPort) : h.Keeps h := ⟨id, id, id⟩

theorem State.Quiet.refl (s : State) : s.Quiet s := ⟨.refl _, .refl _, id⟩

theorem Engine.Keeps.trans {f g h : Engine} (a : f.Keeps g) (b : g.Keeps h) : f.Keeps h :=
  ⟨b.pools.trans a.pools, b.slots.trans a.slots, b.digest.trans a.digest,
    b.history.trans a.history, b.horizon.trans a.horizon, b.installed.trans a.installed,
    b.scan ∘ a.scan⟩

theorem HostPort.Keeps.trans {f g h : HostPort} (a : f.Keeps g) (b : g.Keeps h) : f.Keeps h :=
  ⟨b.reserved ∘ a.reserved, b.spi ∘ a.spi, b.bytes ∘ a.bytes⟩

/-- A host port that differs in its events alone, by flags of Table 42 set. -/
theorem HostPort.Keeps.setFlag (h : HostPort) (e : Event) :
    h.Keeps { h with events := h.events ||| (1#16 <<< e.position) } := by
  refine ⟨fun ⟨events, mask, find⟩ => ⟨?_, mask, find⟩, id, id⟩
  have flag : (1#16 <<< e.position) &&& ~~~ flagPositions = 0#16 := by cases e <;> decide
  show (h.events ||| 1#16 <<< e.position) &&& ~~~ flagPositions = 0#16
  rw [BitVec.and_or_distrib_right, events, flag]; rfl

/-- A host port that differs in LASTCMD and the copies of the ports alone. -/
theorem HostPort.Keeps.of_eq {h g : HostPort} (events : g.events = h.events)
    (mask : g.mask = h.mask) (find : g.find.masks = h.find.masks) (selected : g.selected = h.selected)
    (frame : g.frame = h.frame) (sdo : g.sdo = h.sdo) (bytes : g.requestBytes = h.requestBytes) :
    h.Keeps g := by
  refine ⟨?_, ?_, ?_⟩
  · unfold HostPort.reservedRead0; rw [events, mask, find]; exact id
  · unfold HostPort.spiInOrder; rw [selected, frame, sdo]; exact id
  · rw [bytes]; exact id

namespace State.Quiet
variable {s t : State}

/-- Whatever changes outside replica, host port and LRQ. -/
theorem congr {u : State} (h : s.Quiet t) (engine : u.engine = t.engine) (host : u.host = t.host)
    (lrq : u.request.lrq = t.request.lrq) : s.Quiet u :=
  ⟨engine ▸ h.engine, host ▸ h.host, lrq ▸ h.lrq⟩

/-- Whatever changes in the host port alone. -/
theorem port {u : State} (h : s.Quiet t) (engine : u.engine = t.engine)
    (host : t.host.Keeps u.host) (lrq : u.request.lrq = t.request.lrq) : s.Quiet u :=
  ⟨engine ▸ h.engine, h.host.trans host, lrq ▸ h.lrq⟩

theorem setEvent (h : s.Quiet t) (e : Event) : s.Quiet (t.setEvent e) :=
  h.port rfl (.setFlag _ e) rfl

theorem setEventIf (h : s.Quiet t) (b : Bool) (e : Event) : s.Quiet (t.setEventIf b e) := by
  cases b
  · exact h
  · exact h.setEvent e

theorem postReserved (h : s.Quiet t) (c : Completion) : s.Quiet (t.postReserved c) :=
  h.port rfl (.setFlag _ .completion) rfl

theorem clearOwn (h : s.Quiet t) : s.Quiet t.clearOwn := h.congr rfl rfl rfl

theorem setOwn (h : s.Quiet t) (o : Own) : s.Quiet (t.setOwn o) := h.congr rfl rfl rfl

theorem setLastCmd (h : s.Quiet t) (l : LastCmd) : s.Quiet (t.setLastCmd l) :=
  h.port rfl (.of_eq rfl rfl rfl rfl rfl rfl rfl) rfl

theorem choose (h : s.Quiet t) : s.Quiet t.choose := h.congr (by simp) (by simp) (by simp)

/-! ### Leaving and exit (R117, R156, R157) -/

theorem dropChosen (h : s.Quiet t) : s.Quiet t.dropChosen := by
  unfold State.dropChosen
  split
  · split
    · split
      · split
        · exact h.clearOwn.postReserved _
        · exact h.congr rfl rfl rfl
      all_goals exact h.clearOwn
    · exact h
  · exact h

theorem dropHeld (h : s.Quiet t) : s.Quiet t.dropHeld := by
  unfold State.dropHeld
  split
  · split
    · exact (h.congr rfl rfl rfl : s.Quiet
        { t with request := { t.request with held := none } }).postReserved _
    all_goals exact h.congr rfl rfl rfl
  · exact h

theorem cancelOutcomes (h : s.Quiet t) : s.Quiet t.cancelOutcomes := by
  have posted : ∀ (l : List OutcomeEntry) (u : State), s.Quiet u →
      s.Quiet (l.foldl (fun v o => v.postReserved o.cancelled) u) := by
    intro l
    induction l with
    | nil => exact fun _ hu => hu
    | cons o rest ih => exact fun u hu => ih _ (hu.postReserved _)
  exact (posted t.request.outcomes t h).congr rfl rfl rfl

theorem enterOutside (h : s.Quiet t) (cause : ExitCause) (last : Nat → LastCmd) :
    s.Quiet (t.enterOutside cause last) := by
  have dropped := h.cancelOutcomes.dropChosen.dropHeld
  unfold State.enterOutside
  refine State.Quiet.setEventIf (State.Quiet.setEvent ⟨?_, ?_, ?_⟩ _) _ _
  · exact dropped.engine.trans ⟨rfl, rfl, rfl, rfl, rfl, rfl, id⟩
  · exact dropped.host.trans (.of_eq rfl rfl rfl rfl rfl rfl rfl)
  · exact fun _ => Nat.zero_le _

theorem enterLeaving (h : s.Quiet t) (reason : LeaveReason) : s.Quiet (t.enterLeaving reason) :=
  State.Quiet.choose (State.Quiet.dropHeld (State.Quiet.dropChosen (h.congr rfl rfl rfl)))

/-! ### Ends of an own record (R153 to R158) -/

theorem endOwn (h : s.Quiet t) (outcome : Outcome) : s.Quiet (t.endOwn outcome) := by
  unfold State.endOwn
  split
  · split
    · exact h.clearOwn.postReserved _
    all_goals exact h.clearOwn
  · exact h

theorem resendOrdinary (h : s.Quiet t) (fault : Bool) (o : Own) (r : Request) :
    s.Quiet (t.resendOrdinary fault o r) := by
  unfold State.resendOrdinary
  split
  · exact h.clearOwn.postReserved _
  · split
    · split
      · exact h.congr rfl rfl rfl
      · exact h.setOwn _
    · exact h.clearOwn.postReserved _

theorem abortOwn (h : s.Quiet t) (fault : Bool) : s.Quiet (t.abortOwn fault) := by
  unfold State.abortOwn
  split
  · dsimp only
    split
    · split
      · exact h.resendOrdinary _ _ _
      · exact h.clearOwn.postReserved _
    · split
      · split
        · exact h.clearOwn.enterOutside _ _
        · split
          · exact h.clearOwn.enterOutside _ _
          · exact h.setOwn _
      · exact h.clearOwn
    · split
      · split
        · exact h.clearOwn.enterOutside _ _
        · exact h.setOwn _
      · exact h.clearOwn
    · exact h.clearOwn
  · exact h

/-! ### Scans and arriving entries (R25, R53, R166) -/

/-- The end of a scan whose matches are within the bound. -/
theorem endScan (h : s.Quiet t) (code : FindCode) (scan : Scan) (commit : CommitNo)
    (found : t.engine.scanBounded → scan.found.length ≤ Config.findMax) :
    s.Quiet (t.endScan code scan commit) := by
  apply State.Quiet.setEvent
  exact ⟨h.engine.trans ⟨rfl, rfl, rfl, rfl, rfl, rfl, fun b => ⟨found b, fun _ none => nomatch none⟩⟩,
    h.host, h.lrq⟩

theorem yieldScan (h : s.Quiet t) : s.Quiet t.yieldScan := by
  unfold State.yieldScan
  split
  · rename_i scan running
    split
    · exact h.endScan _ _ _ fun b => (b.2 scan running).2.le
    · exact h
  · exact h

theorem discardBuilt (h : s.Quiet t) : s.Quiet t.discardBuilt :=
  h.congr (by simp) (by simp) (by simp)

theorem arrive (h : s.Quiet t) (e : ApplyEntry) : s.Quiet (t.arrive e) :=
  State.Quiet.discardBuilt (State.Quiet.yieldScan (h.congr rfl rfl rfl))

/-! ### Commits (R72 to R78, R111) -/

theorem ownCommitted (h : s.Quiet t) (number : CommitNo) : s.Quiet (t.ownCommitted number) :=
  h.congr (by simp) (by simp) (by simp)

theorem cursorAt (h : s.Quiet t) (r : Record) (was : Bool) (before : List StationNo) :
    s.Quiet (t.cursorAt r was before) :=
  h.congr (by simp) (by simp) (by simp)

theorem freezeBegins (h : s.Quiet t) : s.Quiet t.freezeBegins :=
  h.congr (by simp) (by simp) (by simp)

theorem openWindow (h : s.Quiet t) : s.Quiet t.openWindow :=
  h.congr (by simp) (by simp) (by simp)

theorem phaseAt (h : s.Quiet t) (r : Record) (number : CommitNo) (isVoid : Bool) :
    s.Quiet (t.phaseAt r number isVoid) := by
  unfold State.phaseAt
  split
  · exact h
  · split
    · exact h.congr rfl rfl rfl
    · split
      · apply State.Quiet.setEvent
        exact h.congr rfl rfl rfl
      · exact h.congr rfl rfl rfl
    · exact h

theorem commitMember (h : s.Quiet t) (r : Record) (own : Bool) (ack : BitVec 8) :
    s.Quiet (t.commitMember r own ack) := by
  have ownToo : ∀ (u : State) (number : CommitNo), s.Quiet u →
      s.Quiet (if own then u.ownCommitted number else u) := fun u number hu => by
    split
    · exact hu.ownCommitted _
    · exact hu
  unfold State.commitMember
  extract_lets c entry _ numbered ended installs moved phased told donating frozen
  split
  · have h1 : s.Quiet numbered := h.congr rfl rfl rfl
    exact (ownToo _ _ (h1.arrive entry)).enterOutside _ _
  · have h1 : s.Quiet moved := h.congr rfl rfl rfl
    have h2 : s.Quiet donating := (ownToo _ _ ((h1.arrive entry).phaseAt _ _ _)).cursorAt _ _ _
    have h3 : s.Quiet frozen := by
      unfold frozen
      split
      · exact h2.freezeBegins
      · exact h2
    exact (h3.setEventIf _ _).setEventIf _ _

theorem commitJoin (h : s.Quiet t) (ack : BitVec 8) : s.Quiet (t.commitJoin ack) := by
  unfold State.commitJoin
  extract_lets founding arrived _ _ entered
  have h1 : s.Quiet arrived := h.clearOwn.arrive _
  have h2 : s.Quiet entered := by
    unfold entered
    split
    · apply State.Quiet.setEvent
      exact h1.congr rfl rfl rfl
    · exact h1.congr rfl rfl rfl
  split
  · exact h2.enterLeaving _
  · exact h2

theorem selfDrop (h : s.Quiet t) (own aborted : Bool) : s.Quiet (t.selfDrop own aborted) := by
  unfold State.selfDrop
  dsimp only
  split
  · exact (h.enterOutside _ _).endOwn _
  · exact h.enterOutside _ _

theorem closeAs (h : s.Quiet t) (drive : Drive) (o : OpenRecord) (ack : BitVec 8) (flt : Bool) :
    s.Quiet (t.closeAs drive o ack flt) := by
  unfold State.closeAs
  split
  · split
    · exact h.abortOwn _
    · exact h
  · split
    · exact h.selfDrop _ _
    · split
      · split
        · exact h.abortOwn _
        · exact h
      · exact h.commitMember _ _ _
  · split
    · exact h
    · split
      · exact h.abortOwn _
      · split
        · exact h.commitJoin _
        · exact h.endOwn _

theorem closeWindow (h : s.Quiet t) (ack : BitVec 8) (flt : Bool) :
    s.Quiet (t.closeWindow ack flt) := by
  unfold State.closeWindow
  split
  · rename_i drive o rest _ _
    have off : s.Quiet { t with bus := { t.bus with openList := rest, window := none } } :=
      h.congr rfl rfl rfl
    exact (off.closeAs drive o ack flt).openWindow.choose
  · exact h

end State.Quiet
end Sys2Proof.Machine
end

section
/-!
PROOFS. What the commands keep, continued: arbitration and restart, the host port, engine turns, and the
lemma for every command.
-/
namespace Sys2Proof.Machine
namespace State.Quiet
variable {s t : State}

/-! ### Arbitration, transfers and restart episodes (R61 to R83) -/

theorem assertMrs (h : s.Quiet t) : s.Quiet t.assertMrs := h.congr (by simp) (by simp) (by simp)

theorem violated (h : s.Quiet t) : s.Quiet t.violated := by
  rw [State.violated_eq]; exact h.congr rfl rfl rfl

theorem win (h : s.Quiet t) : s.Quiet t.win := by
  unfold State.win
  split
  · refine ⟨h.engine, h.host, fun b => le_trans ?_ (h.lrq b)⟩
    dsimp only
    split <;> split <;> simp
  · exact h

theorem recordStarts (h : s.Quiet t) (winner : StationNo) (own : Bool)
    (started : Option (List Nibble)) : s.Quiet (t.recordStarts winner own started) := by
  unfold State.recordStarts
  extract_lets after
  have h1 : s.Quiet after := by
    unfold after
    split
    · exact h
    · exact h.congr rfl rfl rfl
  split
  · exact h1.violated
  · exact h1

theorem strayStart (h : s.Quiet t) (started : List Nibble) : s.Quiet (t.strayStart started) := by
  unfold State.strayStart
  split
  · dsimp only
    split <;> split
    · exact (h.congr rfl rfl rfl : s.Quiet { t with bus := { t.bus with
        turn := startStation started t.bus.turn } }).assertMrs
    · exact h.congr rfl rfl rfl
    · exact (h.congr rfl rfl rfl : s.Quiet (t.startTransfer _ _ _)).violated
    · exact h.congr rfl rfl rfl
  · exact h

theorem endTransfer (h : s.Quiet t) (rest : List Nibble) (mrs : Bool) :
    s.Quiet (t.endTransfer rest mrs) := by
  unfold State.endTransfer
  split
  · exact h
  · split
    · extract_lets nibbles turn _ off fits barred
      have h1 : s.Quiet off := h.congr rfl rfl rfl
      split
      · exact h1.assertMrs
      · split
        · apply State.Quiet.openWindow
          exact h1.congr rfl rfl rfl
        · split
          · exact (h1.abortOwn _).choose
          · exact h1
    · exact h

theorem strayAck (h : s.Quiet t) : s.Quiet t.strayAck := by
  unfold State.strayAck
  split
  · exact h.assertMrs
  · exact h

theorem restartBegin (h : s.Quiet t) : s.Quiet t.restartBegin := by
  unfold State.restartBegin
  split
  · apply State.Quiet.choose
    apply State.Quiet.abortOwn
    exact h.congr rfl rfl rfl
  · exact h

theorem restartEnd (h : s.Quiet t) : s.Quiet t.restartEnd := by
  unfold State.restartEnd
  split
  · apply State.Quiet.setEvent
    exact h.congr rfl rfl rfl
  · exact h

/-! ### The host port (R107 to R110, R141 to R150, R161 to R174) -/

theorem commandStart (h : s.Quiet t) : s.Quiet t.commandStart := by
  unfold State.commandStart
  split
  · apply State.Quiet.choose
    exact (h.setLastCmd _).congr rfl rfl rfl
  · exact h.setLastCmd _

theorem commandLeave (h : s.Quiet t) : s.Quiet t.commandLeave := by
  unfold State.commandLeave
  split
  · exact (h.setLastCmd _).enterLeaving _
  · exact (h.setLastCmd _).enterLeaving _
  · split
    · exact (h.setLastCmd _).congr rfl rfl rfl
    · exact h.enterOutside _ _
  all_goals exact h.setLastCmd _

theorem commandWithdraw (h : s.Quiet t) : s.Quiet t.commandWithdraw := by
  unfold State.commandWithdraw
  extract_lets freed
  have h1 : s.Quiet freed := by
    unfold freed
    split
    · exact h.congr rfl rfl rfl
    · exact h
  apply State.Quiet.choose
  exact ⟨h1.engine, h1.host.trans (.of_eq rfl rfl rfl rfl rfl rfl rfl), fun _ => Nat.zero_le _⟩

theorem siteByte (h : s.Quiet t) (high : Bool) (value : Byte) : s.Quiet (t.siteByte high value) := by
  unfold State.siteByte
  split
  · exact h.port rfl (.of_eq rfl rfl rfl rfl rfl rfl rfl) rfl
  · exact h

theorem eventsByte (h : s.Quiet t) (high : Bool) (value : Byte) :
    s.Quiet (t.eventsByte high value) := by
  refine h.port rfl ⟨fun ⟨events, mask, find⟩ => ⟨?_, mask, find⟩, id, id⟩ rfl
  have swap : ∀ x y z : BitVec 16, x &&& y &&& z = x &&& z &&& y := fun x y z => by
    rw [BitVec.and_assoc, BitVec.and_comm y, BitVec.and_assoc]
  exact (swap _ _ _).trans ((congrArg (· &&& _) events).trans (BitVec.zero_and ..))

theorem maskByte (h : s.Quiet t) (high : Bool) (value : Byte) : s.Quiet (t.maskByte high value) := by
  refine h.port rfl ⟨fun ⟨events, _, find⟩ => ⟨events, ?_, find⟩, id, id⟩ rfl
  show replaceByte high value t.host.mask &&& flagPositions &&& ~~~ flagPositions = 0#16
  rw [BitVec.and_assoc, BitVec.and_not_self]
  exact BitVec.and_zero

theorem selectView (h : s.Quiet t) (value : Byte) : s.Quiet (t.selectView value) := by
  unfold State.selectView
  split
  · exact ⟨h.engine.trans ⟨rfl, rfl, rfl, rfl, rfl, rfl, id⟩, h.host, h.lrq⟩
  · exact h

theorem findGo (h : s.Quiet t) : s.Quiet t.findGo := by
  unfold State.findGo
  split
  · exact h
  · rename_i idle
    extract_lets f
    split
    · rename_i window
      refine ⟨h.engine.trans ⟨rfl, rfl, rfl, rfl, rfl, rfl, fun _ => ⟨Nat.zero_le _, ?_⟩⟩, h.host,
        h.lrq⟩
      intro scan new
      cases new
      exact ⟨window.trans (Nat.min_le_right _ _), by simp [Config.findMax]⟩
    · apply State.Quiet.setEvent
      exact ⟨h.engine.trans ⟨rfl, rfl, rfl, rfl, rfl, rfl, fun b => ⟨Nat.zero_le _, b.2⟩⟩, h.host,
        h.lrq⟩

theorem submit (h : s.Quiet t) (bytes : List Byte) : s.Quiet (t.submit bytes) := by
  unfold State.submit
  split
  · exact h.setEvent _
  · rename_i room
    split
    · split
      · exact h.port rfl (.setFlag _ .completion) rfl
      · exact h.setEvent _
    · apply State.Quiet.choose
      refine ⟨h.engine, h.host, fun _ => ?_⟩
      simp only [List.length_append, List.length_singleton]
      omega

theorem requestByte (h : s.Quiet t) (value : Byte) : s.Quiet (t.requestByte value) := by
  unfold State.requestByte
  extract_lets bytes
  split
  · exact h.port rfl ⟨id, id, fun _ => by dsimp only; omega⟩ rfl
  · apply State.Quiet.submit
    exact h.port rfl ⟨id, id, fun _ => Nat.zero_le _⟩ rfl

/-- A write to one of the filter registers of FIND, bit 3 of the masks kept 0. -/
theorem setFind (h : s.Quiet t) (f : FindFilter)
    (masks : t.host.find.masks.getLsbD 3 = false → f.masks.getLsbD 3 = false) :
    s.Quiet { t with host := { t.host with find := f } } :=
  h.port rfl ⟨fun ⟨events, mask, find⟩ => ⟨events, mask, masks find⟩, id, id⟩ rfl

/-- A byte at an address reaches it in the frame in progress or in a new one. -/
theorem reach (h : s.Quiet t) (read : Bool) (a : Addr) : s.Quiet (t.reach read a) := by
  unfold State.reach
  split
  · exact h
  · exact h.port rfl ⟨id, fun _ => ⟨rfl, fun _ => rfl⟩, fun _ => Nat.zero_le _⟩ rfl

theorem moved (h : s.Quiet t) (read : Bool) (a : Addr) (out : Byte) :
    s.Quiet (t.moved read a out) :=
  h.port rfl ⟨id, fun _ => ⟨rfl, fun _ => rfl⟩, id⟩ rfl

/-- A copy or pointer of a port is written. -/
theorem ports {h' : HostPort} (h : s.Quiet t) (events : h'.events = t.host.events)
    (mask : h'.mask = t.host.mask) (find : h'.find.masks = t.host.find.masks)
    (selected : h'.selected = t.host.selected) (frame : h'.frame = t.host.frame)
    (sdo : h'.sdo = t.host.sdo) (bytes : h'.requestBytes = t.host.requestBytes) :
    s.Quiet { t with host := h' } :=
  h.port rfl (.of_eq events mask find selected frame sdo bytes) rfl

/-- What a write does at its address is quiet, unless it is REINIT. -/
theorem writeEffect (h : s.Quiet t) (a : Addr) (value : Byte) :
    s.Quiet (t.writeEffect a value) ∨ t.writeEffect a value = t.softReset := by
  unfold State.writeEffect
  split
  · exact Or.inl (h.siteByte _ _)
  · exact Or.inl (h.siteByte _ _)
  · unfold State.command
    split
    · exact Or.inl h.commandStart
    · split
      · exact Or.inl h.commandLeave
      · split
        · exact Or.inl h.commandWithdraw
        · split
          · exact Or.inr rfl
          · exact Or.inl (h.setLastCmd _)
  · exact Or.inl (h.eventsByte _ _)
  · exact Or.inl (h.eventsByte _ _)
  · exact Or.inl (h.maskByte _ _)
  · exact Or.inl (h.maskByte _ _)
  · exact Or.inl (h.requestByte _)
  · exact Or.inl (h.selectView _)
  · exact Or.inl (h.setFind _ id)
  · exact Or.inl (h.setFind _ id)
  · exact Or.inl (h.setFind _ id)
  · exact Or.inl (h.setFind _ id)
  · exact Or.inl (h.setFind _ fun _ => by simp [findMaskBits])
  · exact Or.inl h.findGo
  · exact Or.inl h

theorem readCompletion (h : s.Quiet t) : s.Quiet t.readCompletion := by
  unfold State.readCompletion
  extract_lets r p
  have h1 : s.Quiet r := h.reach _ _
  apply State.Quiet.moved
  split
  · apply State.Quiet.choose
    exact (h1.ports rfl rfl rfl rfl rfl rfl rfl : s.Quiet
      { r with host := { r.host with compRead := none } }).congr rfl rfl rfl
  · exact h1.ports rfl rfl rfl rfl rfl rfl rfl

theorem readNotice (h : s.Quiet t) : s.Quiet t.readNotice := by
  unfold State.readNotice
  extract_lets r p out
  have h1 : s.Quiet r := h.reach _ _
  apply State.Quiet.moved
  exact ⟨h1.engine.trans ⟨rfl, rfl, rfl, rfl, rfl, rfl, id⟩,
    h1.host.trans (.of_eq rfl rfl rfl rfl rfl rfl rfl), h1.lrq⟩

theorem readView (h : s.Quiet t) : s.Quiet t.readView := by
  apply State.Quiet.moved
  exact (h.reach _ _).ports rfl rfl rfl rfl rfl rfl rfl

theorem readFind (h : s.Quiet t) : s.Quiet t.readFind := by
  apply State.Quiet.moved
  exact (h.reach _ _).ports rfl rfl rfl rfl rfl rfl rfl

theorem readAudit (h : s.Quiet t) : s.Quiet t.readAudit := by
  apply State.Quiet.moved
  exact (h.reach _ _).ports rfl rfl rfl rfl rfl rfl rfl

theorem readEvents (h : s.Quiet t) (high : Bool) : s.Quiet (t.readEvents high) := by
  apply State.Quiet.moved
  exact (h.reach _ _).ports rfl rfl rfl rfl rfl rfl rfl

theorem readCommit (h : s.Quiet t) (offset : BitVec 3) : s.Quiet (t.readCommit offset) := by
  apply State.Quiet.moved
  exact (h.reach _ _).ports rfl rfl rfl rfl rfl rfl rfl

theorem read (h : s.Quiet t) (a : Addr) : s.Quiet (t.read a) := by
  unfold State.read
  split
  · exact h.readEvents _
  · exact h.readEvents _
  · exact h.readCompletion
  · exact h.readNotice
  · exact h.readView
  · exact h.readFind
  · exact h.readAudit
  · split
    · exact h.readCommit _
    · exact (h.reach _ _).moved _ _ _

/-! ### Engine turns that apply nothing (R52 to R55) -/

theorem build (h : s.Quiet t) : s.Quiet t.build := by
  unfold State.build
  split
  · split
    · exact h.congr rfl rfl rfl
    · exact h
  · exact h

theorem copyView (h : s.Quiet t) : s.Quiet t.copyView := by
  unfold State.copyView
  split
  · split
    · exact ⟨h.engine.trans ⟨rfl, rfl, rfl, rfl, rfl, rfl, id⟩, h.host, h.lrq⟩
    · exact h
  · exact h

theorem scanSlot (h : s.Quiet t) (scan : Scan) (i : SlotNo) (running : t.engine.scan = some scan) :
    s.Quiet (t.scanSlot scan i) := by
  unfold State.scanSlot
  extract_lets found commit stepped
  have bound : t.engine.scanBounded → found.length ≤ Config.findMax := by
    intro b
    have := (b.2 scan running).2
    unfold found
    split <;> simp <;> omega
  split
  · exact h.endScan _ _ _ bound
  · rename_i inside
    split
    · exact h.endScan _ _ _ bound
    · rename_i room
      refine ⟨h.engine.trans ⟨rfl, rfl, rfl, rfl, rfl, rfl, fun b => ⟨b.1, ?_⟩⟩, h.host, h.lrq⟩
      intro next new
      cases new
      have last : scan.filter.lastSlot ≤ 63 := Nat.min_le_right _ _
      exact ⟨by show i.val + 1 ≤ 63; omega, by show found.length < _; omega⟩

theorem findStep (h : s.Quiet t) : s.Quiet t.findStep := by
  unfold State.findStep
  split
  · rename_i scan running
    split
    · split
      · exact h.scanSlot _ _ running
      · exact h.endScan _ _ _ fun b => (b.2 scan running).2.le
    · exact h
  · exact h

end State.Quiet
end Sys2Proof.Machine
end

section
/-!
PROOFS. What every command and every step keeps of the replica, of the host port and of the LRQ; and the
digest, the reserved positions and the order of SDO after every step.
-/
namespace Sys2Proof.Machine

/-! ### Applications -/

/-- An application reports to the host port and leaves the LRQ. -/
theorem HostPort.Keeps.setEventIf (s : State) (b : Bool) (e : Event) :
    s.host.Keeps (s.setEventIf b e).host := ((State.Quiet.refl s).setEventIf b e).host

theorem State.complete_quiet (e : ApplyEntry) (d : Option Decision) (s : State) :
    s.Quiet (s.complete e d) := by
  unfold State.complete
  split
  · split
    · split
      · apply State.Quiet.postReserved
        exact (State.Quiet.refl s).congr rfl rfl rfl
      · exact .refl s
    · exact .refl s
  · exact .refl s

theorem State.application_host (s : State) : s.host.Keeps s.application.host := by
  have steps : ∀ (e : ApplyEntry) (t : State), t.host.Keeps (t.applySteps e).host := fun e t =>
    ((HostPort.Keeps.setEventIf { t with engine := (t.engine.applySteps t.me e).engine } _ _).trans
      (HostPort.Keeps.setEventIf _ _ _)).trans (State.complete_quiet _ _ _).host
  unfold State.application
  split
  · exact .refl _
  · rename_i e rest _
    rw [State.choose_host]
    unfold State.applyEntry
    split
    · split <;> exact .refl _
    · split
      · exact steps e { s with bus := { s.bus with applyQueue := rest } }
      · exact .refl _

/-- Before a win the host port keeps what it keeps at an application. -/
theorem State.beforeWin_host (s : State) : s.host.Keeps s.beforeWin.host :=
  State.beforeWin_keeps (fun t => s.host.Keeps t.host) (fun t h => h.trans t.application_host) s
    (.refl _)

/-! ### Pins, lock and the timer (R57 to R59, R114, R179) -/

namespace State.Quiet
variable {s t : State}

theorem lockGain (h : s.Quiet t) : s.Quiet (effectOf .lockGain t) := by
  show s.Quiet (if t.bus.locked then t else _)
  split
  · exact h
  · apply State.Quiet.setEvent
    exact h.congr rfl rfl rfl

theorem lockLoss (h : s.Quiet t) : s.Quiet (effectOf .lockLoss t) := by
  show s.Quiet (if t.bus.locked then _ else t)
  split
  · have off : s.Quiet { t with bus := t.bus.loseLock } := h.congr rfl rfl rfl
    apply State.Quiet.endOwn
    split
    · exact (off.setEvent .lock).enterOutside _ _
    · exact off.setEvent .lock
  · exact h

theorem quietBus (h : s.Quiet t) : s.Quiet (effectOf .quietBus t) := by
  show s.Quiet (if t.bus.locked && !t.bus.inStep then _ else t)
  split
  · exact h.congr rfl rfl rfl
  · exact h

theorem syncTimerExpiry (h : s.Quiet t) : s.Quiet (effectOf .syncTimerExpiry t) := by
  unfold effectOf exec execSyncTimerExpiry
  dsimp only
  split
  · split
    · exact h.enterLeaving _
    · exact h
  · exact h

theorem select (h : s.Quiet t) : s.Quiet t.select := by
  unfold State.select
  split
  · exact h
  · exact h.port rfl ⟨id, fun _ => ⟨rfl, fun _ => rfl⟩, fun _ => Nat.zero_le _⟩ rfl

end State.Quiet

/-! ### Every command -/

/-- What a command does to the replica: it keeps it, takes its reset value, applies the head entry, or
wins as the entry AUDIT after the applications that come before. -/
inductive EngineChange (c : Instr) (s t : State) : Prop
  | kept (h : s.engine.Keeps t.engine)
  | reset (h : t.engine = Engine.reset)
  | applied (command : c = .application) (h : t.engine = s.application.engine)
  | beforeWin (req : BitVec 8) (thr : Bool) (started : Option (List Nibble))
      (command : c = .arbitrationRound req thr started) (h : s.beforeWin.engine.Keeps t.engine)

/-- What a command does to replica, host port and LRQ. -/
structure State.Advance (c : Instr) (s t : State) : Prop where
  engine : EngineChange c s t
  host : s.host.Keeps t.host
  lrq : s.request.lrq.length ≤ Config.lrqMax → t.request.lrq.length ≤ Config.lrqMax

theorem State.Quiet.advance {s t : State} (h : s.Quiet t) (c : Instr) : s.Advance c t :=
  ⟨.kept h.engine, h.host, h.lrq⟩

/-- The reset values of the host port are in order. -/
theorem HostPort.Keeps.to_reset (h : HostPort) : h.Keeps HostPort.reset :=
  ⟨fun _ => by unfold HostPort.reservedRead0; decide, fun _ => ⟨rfl, fun f => absurd rfl f⟩,
    fun _ => Nat.zero_le _⟩

theorem State.write_advance (c : Instr) (a : Addr) (value : Byte) (s : State) :
    s.Advance c (s.write a value) := by
  rw [State.write_eq]
  rcases ((State.Quiet.refl s).reach false a).writeEffect a value with quiet | reinit
  · exact (quiet.moved _ _ _).advance c
  · rw [reinit]
    refine ⟨.reset rfl, (HostPort.Keeps.to_reset _).trans ?_, fun _ => Nat.zero_le _⟩
    exact ((State.Quiet.refl (s.reach false a).softReset).moved false a 0x00#8).host

theorem State.round_advance (req : BitVec 8) (thr : Bool) (started : Option (List Nibble))
    (s : State) : s.Advance (.arbitrationRound req thr started) (s.round req thr started) := by
  unfold State.round
  split
  · split
    · exact (State.Quiet.refl s).advance _
    · rename_i winner _
      split
      · have before : s.beforeWin.Quiet (s.beforeWin.win.recordStarts winner true started) :=
          (State.Quiet.refl _).win.recordStarts _ _ _
        exact ⟨.beforeWin req thr started rfl before.engine, s.beforeWin_host.trans before.host,
          fun b => before.lrq (by simpa using b)⟩
      · exact ((State.Quiet.refl s).recordStarts _ _ _).advance _
  · exact (State.Quiet.refl s).advance _

theorem State.spiByte_advance (c : Instr) (value : Byte) (s : State) :
    s.Advance c (s.spiByte value) := by
  have now := State.Quiet.refl s
  unfold State.spiByte
  split
  · rename_i selected
    split
    · exact (now.port (u := { s with host := s.host.commandByte value }) rfl
        ⟨id, fun _ => ⟨selected.symm, fun _ => selected⟩, id⟩ rfl).advance c
    · split
      · exact (now.read _).advance c
      · exact s.write_advance c _ _
  · exact now.advance c

/-- What each command does to replica, host port and LRQ. -/
theorem effectOf_advance (c : Instr) (s : State) : s.Advance c (effectOf c s) := by
  have now := State.Quiet.refl s
  cases c with
  | pinReset => exact ⟨.reset rfl, .to_reset _, fun _ => Nat.zero_le _⟩
  | resetRelease straps => exact (now.congr (u := effectOf _ s) rfl rfl rfl).advance _
  | lockGain => exact now.lockGain.advance _
  | lockLoss => exact now.lockLoss.advance _
  | quietBus => exact now.quietBus.advance _
  | start => exact s.write_advance _ _ _
  | leave => exact s.write_advance _ _ _
  | withdraw => exact s.write_advance _ _ _
  | reinit => exact s.write_advance _ _ _
  | controlOther value => exact s.write_advance _ _ _
  | siteWrite high value => exact s.write_advance _ _ _
  | eventsClear high value => exact s.write_advance _ _ _
  | evmaskWrite high value => exact s.write_advance _ _ _
  | viewSel value => exact s.write_advance _ _ _
  | findGo value => exact s.write_advance _ _ _
  | requestSubmit value => exact s.write_advance _ _ _
  | registerWrite event value =>
    cases event with
    | select => exact now.select.advance _
    | byte => exact s.spiByte_advance _ value
    | write addr => exact s.write_advance _ _ _
    | read addr => exact (now.read _).advance _
  | completionTake => exact now.readCompletion.advance _
  | noticeTake => exact now.readNotice.advance _
  | viewPortRead => exact now.readView.advance _
  | findPortRead => exact now.readFind.advance _
  | auditPortRead => exact now.readAudit.advance _
  | eventsRead high => exact (now.readEvents high).advance _
  | commitDigestRead offset => exact (now.readCommit offset).advance _
  | spiFrameEnd =>
    exact (now.port (u := { s with host := s.host.endFrame }) rfl
      ⟨id, fun _ => ⟨rfl, fun f => absurd rfl f⟩, fun _ => Nat.zero_le _⟩ rfl).advance _
  | arbitrationRound req thr started => exact s.round_advance _ _ _
  | priChange asserted => exact (now.congr (u := effectOf _ s) rfl rfl rfl).advance _
  | transferEnd rest mrs => exact (now.endTransfer _ _).advance _
  | checkWindowClose ack flt => exact (now.closeWindow _ _).advance _
  | mrsRelease => exact (now.congr (u := effectOf _ s) rfl rfl rfl).advance _
  | restartEpisodeBegin => exact now.restartBegin.advance _
  | restartEpisodeEnd => exact now.restartEnd.advance _
  | application =>
    exact ⟨.applied rfl rfl, s.application_host, fun b =>
      s.application_request_lrq.symm ▸ b⟩
  | snapshotBuild => exact now.build.advance _
  | viewCopy => exact now.copyView.advance _
  | findStep => exact now.findStep.advance _
  | syncTimerExpiry => exact now.syncTimerExpiry.advance _
  | recordStartWithoutRound started => exact (now.strayStart _).advance _
  | ackOrFltOutOfWindow => exact now.strayAck.advance _

/-! ### Reserved positions, SDO and the digest after every step -/

/-- The host port after every step. -/
theorem step_host {s t : State} (h : step s = .next t) : s.host.Keeps t.host := by
  rcases step_cases h with rfl | ⟨c, rest, -, rfl⟩
  · exact .refl _
  · exact (effectOf_advance c { s with pending := rest }).host

/-- A kept replica keeps the digest the function of the tables. -/
theorem Engine.Keeps.digestFollows {g h : Engine} (k : g.Keeps h)
    (f : g.digest = digestOf g.pools g.slots) : h.digest = digestOf h.pools h.slots := by
  rw [k.digest, k.pools, k.slots, f]

/-- The digest follows the tables through an application (R14, R15, R46). -/
theorem State.application_digestFollows (s : State) (f : s.digestFollows) :
    s.application.digestFollows := by
  unfold State.application
  split
  · exact f
  · show (State.choose _).engine.digest = _
    rw [State.choose_engine]
    unfold State.applyEntry
    split
    · split
      · exact f
      · rfl
    · split
      · rw [State.applySteps_engine]; rfl
      · exact f

theorem effectOf_digestFollows (c : Instr) (s : State) (f : s.digestFollows) :
    (effectOf c s).digestFollows := by
  rcases (effectOf_advance c s).engine with kept | reset | ⟨-, applied⟩ | ⟨-, -, -, -, before⟩
  · exact kept.digestFollows f
  · unfold State.digestFollows; rw [reset]; rfl
  · unfold State.digestFollows; rw [applied]; exact s.application_digestFollows f
  · exact before.digestFollows
      (State.beforeWin_keeps State.digestFollows State.application_digestFollows s f)

/-- Settles O55: the digest by what each command does to the replica, the rest by what each command
keeps of the host port. -/
theorem stepKeepsDigestAndReservedPositions : Obligations.StepKeepsDigestAndReservedPositions := by
  refine ⟨fun s t f h => ?_, fun s t f h => (step_host h).reserved f,
    fun s t f h => (step_host h).spi f⟩
  rcases step_cases h with rfl | ⟨c, rest, -, rfl⟩
  · exact f
  · exact effectOf_digestFollows c _ f

end Sys2Proof.Machine
end

section
/-!
PROOFS. What the commands do to the lists of the bus unit: which only let records and entries go, which
start a record, and the end of a transfer and the close of a window, which hand one on.
-/
namespace Sys2Proof.Machine

/-! ### What a command that hands nothing on leaves -/

/-- A record is in transfer that will join the open list. -/
def BusUnit.carries (b : BusUnit) : Bool := b.inTransfer.any (fun t => !t.barred)

/-- Nothing is acknowledged, queued or opened anew, and roster and sync list stay or are emptied. -/
structure BusUnit.LetsGo (b c : BusUnit) : Prop where
  window : ∀ r, c.window = some (.ack r) → b.window = some (.ack r)
  queue : ∀ e ∈ c.applyQueue, e ∈ b.applyQueue
  queued : c.applyQueue.length ≤ b.applyQueue.length
  openList : c.openList.length ≤ b.openList.length
  standing : c.roster = b.roster ∧ c.syncList = b.syncList ∨
    c.roster = Roster.allAbsent ∧ c.syncList = []

/-- Besides, no record starts. -/
structure BusUnit.Recedes (b c : BusUnit) : Prop extends b.LetsGo c where
  transfer : c.carries = true → b.carries = true

theorem BusUnit.LetsGo.trans {a b c : BusUnit} (h : a.LetsGo b) (k : b.LetsGo c) : a.LetsGo c where
  window r w := h.window r (k.window r w)
  queue e m := h.queue e (k.queue e m)
  queued := k.queued.trans h.queued
  openList := k.openList.trans h.openList
  standing := by
    rcases k.standing with ⟨roster, list⟩ | gone
    · rw [roster, list]; exact h.standing
    · exact Or.inr gone

theorem BusUnit.Recedes.trans {a b c : BusUnit} (h : a.Recedes b) (k : b.Recedes c) : a.Recedes c :=
  ⟨h.toLetsGo.trans k.toLetsGo, h.transfer ∘ k.transfer⟩

theorem BusUnit.Recedes.refl (b : BusUnit) : b.Recedes b :=
  ⟨⟨fun _ => id, fun _ => id, le_rfl, le_rfl, .inl ⟨rfl, rfl⟩⟩, id⟩

theorem BusUnit.Recedes.of_eq {b c : BusUnit} (h : c = b) : b.Recedes c := h ▸ .refl b

/-- The lists and the record in transfer decide. -/
theorem BusUnit.Recedes.congr {a b c : BusUnit} (h : a.Recedes b) (window : c.window = b.window)
    (queue : c.applyQueue = b.applyQueue) (openList : c.openList = b.openList)
    (roster : c.roster = b.roster) (list : c.syncList = b.syncList)
    (transfer : c.inTransfer = b.inTransfer) : a.Recedes c :=
  h.trans ⟨⟨fun _ => (window ▸ ·), fun _ => (queue ▸ ·), queue ▸ le_rfl, openList ▸ le_rfl,
    .inl ⟨roster, list⟩⟩, fun k => by unfold BusUnit.carries at k ⊢; rwa [transfer] at k⟩

/-- A bus unit with open list, transfer and window emptied. -/
theorem BusUnit.Recedes.emptied {b c : BusUnit} (window : c.window = none)
    (queue : c.applyQueue = b.applyQueue) (openList : c.openList = [])
    (roster : c.roster = b.roster) (list : c.syncList = b.syncList) (transfer : c.inTransfer = none) :
    b.Recedes c where
  window r w := by rw [window] at w; cases w
  queue e := (queue ▸ ·)
  queued := queue ▸ le_rfl
  openList := by rw [openList]; exact Nat.zero_le _
  standing := .inl ⟨roster, list⟩
  transfer k := by rw [BusUnit.carries, transfer] at k; cases k

/-- The entry into OUTSIDE lets everything go (R117). -/
theorem BusUnit.Recedes.exit (b : BusUnit) : b.Recedes b.exit where
  window r w := by
    have idle : b.window.map (fun _ => Drive.idle) = some (.ack r) := w
    rcases b.window with _ | d <;> simp at idle
  queue e m := by cases m
  queued := Nat.zero_le _
  openList := le_rfl
  standing := .inr ⟨rfl, rfl⟩
  transfer k := by
    rw [BusUnit.carries] at k ⊢
    have same : b.exit.inTransfer = b.inTransfer.map (fun t => { t with driving := false }) := rfl
    rw [same, Option.any_map] at k
    exact k

/-- The resets empty the bus unit (R60, R110). -/
theorem BusUnit.Recedes.reset (b : BusUnit) (k : StationNo) (locked pri : Bool) :
    b.Recedes { BusUnit.reset with station := k, locked := locked, priIn := pri } where
  window r w := by cases w
  queue e m := by cases m
  queued := Nat.zero_le _
  openList := Nat.zero_le _
  standing := .inr ⟨rfl, rfl⟩
  transfer k := by cases k

/-- The entries to come, counted with `carries`. -/
theorem BusUnit.entriesToCome_eq (b : BusUnit) : b.entriesToCome =
    b.applyQueue.length + b.openList.length + b.carries.toNat := by
  unfold BusUnit.entriesToCome BusUnit.carries
  cases b.inTransfer.any (fun t => !t.barred) <;> rfl

theorem BusUnit.Recedes.entries {b c : BusUnit} (h : b.Recedes c) :
    c.entriesToCome ≤ b.entriesToCome := by
  have transfer : c.carries.toNat ≤ b.carries.toNat := by
    rcases hc : c.carries with _ | _
    · exact Nat.zero_le _
    · rw [h.transfer hc]
  rw [BusUnit.entriesToCome_eq, BusUnit.entriesToCome_eq]
  have := h.queued
  have := h.openList
  omega

/-! ### Ends of own records, the host port and engine turns -/

theorem State.abortOwn_recedes (fault : Bool) (s : State) : s.bus.Recedes (s.abortOwn fault).bus := by
  rcases s.abortOwn_bus fault with same | ⟨exit, -⟩
  · exact .of_eq same
  · rw [exit]; exact .exit _

theorem State.writeEffect_recedes (a : Addr) (value : Byte) (s : State) :
    s.bus.Recedes (s.writeEffect a value).bus := by
  unfold State.writeEffect
  split
  case h_3 =>
    unfold State.command
    split
    · exact .of_eq (by simp)
    · split
      · unfold State.commandLeave
        split
        case h_3 =>
          split
          · exact .refl _
          · rw [State.enterOutside_bus]; exact .exit _
        all_goals exact .of_eq (by simp)
      · split
        · exact .of_eq (by simp)
        · split
          · exact .reset _ _ _ _
          · exact .refl _
  all_goals exact .of_eq (by simp)

theorem State.write_recedes (a : Addr) (value : Byte) (s : State) :
    s.bus.Recedes (s.write a value).bus := by
  have effect := (s.reach false a).writeEffect_recedes a value
  rwa [State.reach_bus] at effect

theorem State.read_bus (a : Addr) (s : State) : (s.read a).bus = s.bus := by
  unfold State.read
  split
  case h_3 => unfold State.readCompletion; dsimp only; split <;> simp [State.takeCompletion]
  case h_8 => split <;> simp [State.readCommit, State.readPlain]
  all_goals simp [State.readEvents, State.readNotice, State.readView, State.readFind, State.readAudit]

theorem State.spiByte_recedes (value : Byte) (s : State) :
    s.bus.Recedes (s.spiByte value).bus := by
  unfold State.spiByte
  split
  · split
    · exact .refl _
    · split
      · exact .of_eq (State.read_bus _ _)
      · exact State.write_recedes _ _ _
  · exact .refl _

theorem State.application_recedes (s : State) : s.bus.Recedes s.application.bus := by
  rw [State.application_bus]
  exact ⟨⟨fun _ => id, fun _ => List.mem_of_mem_tail, by simp, le_rfl, .inl ⟨rfl, rfl⟩⟩, id⟩

theorem State.beforeWin_recedes (s : State) : s.bus.Recedes s.beforeWin.bus :=
  State.beforeWin_keeps (fun t => s.bus.Recedes t.bus) (fun t h => h.trans t.application_recedes) s
    (.refl _)

/-! ### Records that start (R61 to R66, R80) -/

/-- The open list and the apply queue of a member leave room for a record to start (R26, R61). -/
def State.roomToStart (s : State) : Prop := s.control.member = true →
  s.bus.openList.length < Config.openListMax ∧ s.bus.applyQueue.length < Config.throttleAt

/-- A round is taken only where there is room. -/
theorem State.freeToStart_room (s : State) (thr : Bool) (locked : s.bus.locked = true)
    (inStep : s.bus.inStep = true) (free : s.freeToStart thr = true) : s.roomToStart := by
  intro member
  simp only [State.freeToStart, State.thrDriven, locked, inStep, member, Bool.and_eq_true,
    Bool.not_eq_true', decide_eq_true_eq, Bool.true_and, decide_eq_false_iff_not] at free
  obtain ⟨⟨⟨⟨⟨⟨-, throttle⟩, -⟩, -⟩, -⟩, room⟩, -⟩ := free
  exact ⟨room, by omega⟩

/-- A start leaves all but the record in transfer, the turn pointer and MRS. -/
theorem State.startTransfer_letsGo (winner : StationNo) (own : Bool) (received : List Nibble)
    (s : State) : s.bus.LetsGo (s.startTransfer winner own received).bus :=
  ⟨fun _ => id, fun _ => id, le_rfl, le_rfl, .inl ⟨rfl, rfl⟩⟩

/-- A start that is a violation carries nothing that joins the open list (R80). -/
theorem State.violated_recedes (s : State) : s.bus.Recedes s.violated.bus := by
  rw [State.violated_eq]
  refine ⟨⟨fun _ => id, fun _ => id, le_rfl, le_rfl, .inl ⟨rfl, rfl⟩⟩, fun k => ?_⟩
  rw [BusUnit.carries] at k
  rcases h : s.bus.inTransfer with _ | t <;> simp [h] at k

theorem State.assertMrs_recedes (s : State) : s.bus.Recedes s.assertMrs.bus := by
  rw [State.assertMrs_eq]
  exact ⟨⟨fun _ => id, fun _ => id, le_rfl, le_rfl, .inl ⟨rfl, rfl⟩⟩, id⟩

theorem State.recordStarts_letsGo (winner : StationNo) (own : Bool) (started : Option (List Nibble))
    (s : State) : s.bus.LetsGo (s.recordStarts winner own started).bus := by
  unfold State.recordStarts
  extract_lets after
  have h1 : s.bus.LetsGo after.bus := by
    unfold after
    split
    · exact (BusUnit.Recedes.refl _).toLetsGo
    · exact State.startTransfer_letsGo _ _ _ _
  split
  · exact h1.trans after.violated_recedes.toLetsGo
  · exact h1

/-- A round lets go, and starts a record only where there is room. -/
theorem State.round_bus (req : BitVec 8) (thr : Bool) (started : Option (List Nibble)) (s : State) :
    s.bus.Recedes (s.round req thr started).bus ∨
      s.bus.LetsGo (s.round req thr started).bus ∧ s.roomToStart := by
  unfold State.round
  split
  · rename_i cond
    simp only [Bool.and_eq_true] at cond
    obtain ⟨⟨locked, inStep⟩, free⟩ := cond
    have room := s.freeToStart_room thr locked inStep free
    split
    · exact .inl (.refl _)
    · rename_i winner _
      split
      · have win : s.beforeWin.win.bus = s.beforeWin.bus := by unfold State.win; split <;> rfl
        have starts := s.beforeWin.win.recordStarts_letsGo winner true started
        rw [win] at starts
        exact .inr ⟨s.beforeWin_recedes.toLetsGo.trans starts, room⟩
      · exact .inr ⟨State.recordStarts_letsGo _ _ _ _, room⟩
  · exact .inl (.refl _)

/-- A record where none may start: at a member it will not join the open list, at any other station
the apply queue is empty (R25, R80). -/
theorem State.strayStart_bus (started : List Nibble) (s : State) :
    s.bus.Recedes (s.strayStart started).bus ∨
      s.bus.LetsGo (s.strayStart started).bus ∧ s.roomToStart := by
  unfold State.strayStart
  split
  · rename_i cond
    simp only [Bool.and_eq_true] at cond
    obtain ⟨⟨locked, inStep⟩, -⟩ := cond
    dsimp only
    split
    · have turned : s.bus.Recedes { s.bus with turn := startStation started s.bus.turn } :=
        (BusUnit.Recedes.refl _).congr rfl rfl rfl rfl rfl rfl
      left
      split
      · exact turned.trans (State.assertMrs_recedes { s with bus := { s.bus with
          turn := startStation started s.bus.turn } })
      · exact turned
    · have starts := s.startTransfer_letsGo (startStation started s.bus.turn) false started
      split
      · have barred := (s.startTransfer (startStation started s.bus.turn) false
          started).violated_recedes
        refine .inl ⟨starts.trans barred.toLetsGo, fun k => ?_⟩
        rw [State.violated_eq] at k
        cases k
      · rename_i silent
        refine .inr ⟨starts, fun member => ?_⟩
        simp [State.detects, locked, inStep, member] at silent
  · exact .inl (.refl _)

/-! ### The command's part in the lists -/

/-- What a command does to the lists of the bus unit. -/
inductive BusChange (c : Instr) (s t : State) : Prop
  | recedes (h : s.bus.Recedes t.bus)
  | starts (h : s.bus.LetsGo t.bus) (room : s.roomToStart)
  | transferEnds (rest : List Nibble) (mrs : Bool) (command : c = .transferEnd rest mrs)
      (h : t = s.endTransfer rest mrs)
  | windowCloses (ack : BitVec 8) (flt : Bool) (command : c = .checkWindowClose ack flt)
      (h : t = s.closeWindow ack flt)

theorem BusChange.of_start {c : Instr} {s t : State}
    (h : s.bus.Recedes t.bus ∨ s.bus.LetsGo t.bus ∧ s.roomToStart) : BusChange c s t := by
  rcases h with recedes | ⟨starts, room⟩
  · exact .recedes recedes
  · exact .starts starts room

theorem lockLoss_recedes (s : State) : s.bus.Recedes (effectOf .lockLoss s).bus := by
  show s.bus.Recedes (State.bus (if s.bus.locked then _ else s))
  split
  · have off : s.bus.Recedes s.bus.loseLock := .emptied rfl rfl rfl rfl rfl rfl
    rw [State.endOwn_bus]
    split
    · rw [State.enterOutside_bus]
      exact off.trans (.exit _)
    · exact off
  · exact .refl _

theorem restartBegin_recedes (s : State) : s.bus.Recedes s.restartBegin.bus := by
  unfold State.restartBegin
  split
  · rw [State.choose_bus]
    refine BusUnit.Recedes.trans ?_ (State.abortOwn_recedes false _)
    exact .emptied rfl rfl rfl rfl rfl rfl
  · exact .refl _

/-- What each command does to the lists of the bus unit. -/
theorem effectOf_busChange (c : Instr) (s : State) : BusChange c s (effectOf c s) := by
  cases c with
  | pinReset => exact .recedes (.reset _ _ _ _)
  | resetRelease straps => exact .recedes ((BusUnit.Recedes.refl _).congr rfl rfl rfl rfl rfl rfl)
  | lockGain =>
    refine .recedes ?_
    show s.bus.Recedes (State.bus (if s.bus.locked then s else _))
    split
    · exact .refl _
    · exact .emptied rfl rfl rfl rfl rfl rfl
  | lockLoss => exact .recedes (lockLoss_recedes s)
  | quietBus =>
    refine .recedes ?_
    show s.bus.Recedes (State.bus (if s.bus.locked && !s.bus.inStep then _ else s))
    split
    · exact .emptied rfl rfl rfl rfl rfl rfl
    · exact .refl _
  | start => exact .recedes (s.write_recedes _ _)
  | leave => exact .recedes (s.write_recedes _ _)
  | withdraw => exact .recedes (s.write_recedes _ _)
  | reinit => exact .recedes (s.write_recedes _ _)
  | controlOther value => exact .recedes (s.write_recedes _ _)
  | siteWrite high value => exact .recedes (s.write_recedes _ _)
  | eventsClear high value => exact .recedes (s.write_recedes _ _)
  | evmaskWrite high value => exact .recedes (s.write_recedes _ _)
  | viewSel value => exact .recedes (s.write_recedes _ _)
  | findGo value => exact .recedes (s.write_recedes _ _)
  | requestSubmit value => exact .recedes (s.write_recedes _ _)
  | registerWrite event value =>
    cases event with
    | select =>
      refine .recedes (.of_eq ?_)
      show s.select.bus = s.bus
      unfold State.select; split <;> rfl
    | byte => exact .recedes (s.spiByte_recedes value)
    | write addr => exact .recedes (s.write_recedes _ _)
    | read addr => exact .recedes (.of_eq (s.read_bus addr))
  | completionTake => exact .recedes (.of_eq (s.read_bus 0x13#7))
  | noticeTake => exact .recedes (.of_eq (s.read_bus 0x14#7))
  | viewPortRead => exact .recedes (.of_eq (s.read_bus 0x16#7))
  | findPortRead => exact .recedes (.of_eq (s.read_bus 0x1D#7))
  | auditPortRead => exact .recedes (.of_eq (s.read_bus 0x1E#7))
  | eventsRead high => exact .recedes (.of_eq (State.reach_bus true (eventsAddr high) s))
  | commitDigestRead offset => exact .recedes (.of_eq (State.reach_bus true (commitAddr offset) s))
  | spiFrameEnd => exact .recedes (.refl _)
  | arbitrationRound req thr started => exact .of_start (s.round_bus _ _ _)
  | priChange asserted => exact .recedes ((BusUnit.Recedes.refl _).congr rfl rfl rfl rfl rfl rfl)
  | transferEnd rest mrs => exact .transferEnds rest mrs rfl rfl
  | checkWindowClose ack flt => exact .windowCloses ack flt rfl rfl
  | mrsRelease => exact .recedes ((BusUnit.Recedes.refl _).congr rfl rfl rfl rfl rfl rfl)
  | restartEpisodeBegin => exact .recedes (restartBegin_recedes s)
  | restartEpisodeEnd =>
    refine .recedes ?_
    show s.bus.Recedes s.restartEnd.bus
    unfold State.restartEnd
    split
    · exact (BusUnit.Recedes.refl _).congr rfl rfl rfl rfl rfl rfl
    · exact .refl _
  | application => exact .recedes s.application_recedes
  | snapshotBuild =>
    refine .recedes (.of_eq ?_)
    show s.build.bus = s.bus
    unfold State.build; split <;> [split; skip] <;> rfl
  | viewCopy =>
    refine .recedes (.of_eq ?_)
    show s.copyView.bus = s.bus
    unfold State.copyView; split <;> [split; skip] <;> rfl
  | findStep =>
    refine .recedes (.of_eq ?_)
    show s.findStep.bus = s.bus
    unfold State.findStep State.scanSlot
    dsimp only
    repeat' split
    all_goals rfl
  | syncTimerExpiry =>
    refine .recedes (.of_eq ?_)
    unfold effectOf exec execSyncTimerExpiry
    dsimp only
    split <;> [split; skip] <;> simp
  | recordStartWithoutRound started => exact .of_start (s.strayStart_bus _)
  | ackOrFltOutOfWindow =>
    refine .recedes ?_
    show s.bus.Recedes s.strayAck.bus
    unfold State.strayAck
    split
    · exact s.assertMrs_recedes
    · exact .refl _

end Sys2Proof.Machine
end

section
/-!
PROOFS. The end of a transfer and the close of a window as changes of the lists, the roster and the sync
list; and the bounds of the lists after every step.
-/
namespace Sys2Proof.Machine

/-! ### The window that opens (R69) -/

/-- A window acknowledges the record it acknowledged before, or one read from bytes received. -/
theorem State.openWindow_ack (s : State) (r : Record)
    (h : s.openWindow.bus.window = some (.ack r)) :
    s.bus.window = some (.ack r) ∨ ∃ bytes, parseRecord bytes = some r := by
  rw [State.openWindow_window] at h
  rcases w : s.bus.window with _ | d
  · rw [w] at h
    obtain ⟨o, -, drive⟩ := Option.map_eq_some_iff.mp h
    exact .inr ⟨o.bytes, (driveFor_ack s o r drive).1⟩
  · rw [w] at h; exact .inl h

/-! ### The end of a transfer (R67, R68) -/

/-- A record has joined the tail of the open list, and its window may have opened. -/
structure BusUnit.Joins (b c : BusUnit) : Prop where
  room : b.openList.length < Config.openListMax
  carried : b.carries = true
  transfer : c.inTransfer = none
  openList : c.openList.length = b.openList.length + 1
  queue : c.applyQueue = b.applyQueue
  window : ∀ r, c.window = some (.ack r) →
    b.window = some (.ack r) ∨ ∃ bytes, parseRecord bytes = some r
  roster : c.roster = b.roster
  list : c.syncList = b.syncList

theorem State.endTransfer_bus (rest : List Nibble) (mrs : Bool) (s : State) :
    s.bus.Recedes (s.endTransfer rest mrs).bus ∨ s.bus.Joins (s.endTransfer rest mrs).bus := by
  unfold State.endTransfer
  split
  · exact .inl (.refl _)
  · rename_i t inTransfer
    split
    · extract_lets nibbles turn src off fits barred joined
      have h1 : s.bus.Recedes off.bus :=
        ⟨⟨fun _ => id, fun _ => id, le_rfl, le_rfl, .inl ⟨rfl, rfl⟩⟩, fun k => nomatch k⟩
      split
      · exact .inl (h1.trans off.assertMrs_recedes)
      · split
        · rename_i joins
          simp only [fits, barred, Bool.and_eq_true, decide_eq_true_eq, Bool.not_eq_true',
            Bool.or_eq_false_iff] at joins
          obtain ⟨⟨-, room⟩, unbarred, -⟩ := joins
          refine .inr ⟨room, by simp [BusUnit.carries, inTransfer, unbarred], ?_, ?_, ?_,
            fun r h => State.openWindow_ack { off with bus := { off.bus with openList :=
              s.bus.openList ++ [⟨bytesOfNibbles nibbles, t.own, t.frozen⟩] } } r h, ?_, ?_⟩ <;>
            simp [off, src, joined]
        · split
          · rw [State.choose_bus]
            exact .inl (h1.trans (State.abortOwn_recedes _ _))
          · exact .inl h1
    · exact .inl (.refl _)

theorem BusUnit.Joins.entries {b c : BusUnit} (h : b.Joins c) :
    c.entriesToCome ≤ b.entriesToCome := by
  rw [BusUnit.entriesToCome_eq, BusUnit.entriesToCome_eq, h.queue, h.openList, h.carried,
    BusUnit.carries, h.transfer]
  exact le_rfl

/-! ### The close of a window (R69 to R78, R111) -/

/-- An entry with record `r` has joined the apply queue; window, open list and transfer stay. -/
structure BusUnit.Commits (r : Record) (b c : BusUnit) : Prop where
  queue : ∃ e : ApplyEntry, e.record = r ∧ c.applyQueue = b.applyQueue ++ [e]
  window : c.window = b.window
  openList : c.openList = b.openList
  transfer : c.inTransfer = b.inTransfer

/-- The commit of the own JOIN: its entry arrives, and roster and sync list are those of a group
founded or not yet known (R104, R111). -/
theorem State.commitJoin_bus (ack : BitVec 8) (s : State) :
    s.bus.Commits ⟨s.me, .join s.host.site⟩ (s.commitJoin ack).bus ∧
    (s.commitJoin ack).bus.syncList = [] ∧
    ((s.commitJoin ack).bus.roster = Roster.allAbsent ∨
      (s.commitJoin ack).bus.roster = put Roster.allAbsent s.me .active) := by
  unfold State.commitJoin
  extract_lets founding arrived src _ entered
  have queue : arrived.bus.applyQueue = s.bus.applyQueue ++ [joinEntry s founding] := by
    simp [arrived]
  have h1 : s.bus.Commits ⟨s.me, .join s.host.site⟩ entered.bus ∧ entered.bus.syncList = [] ∧
      (entered.bus.roster = Roster.allAbsent ∨
        entered.bus.roster = put Roster.allAbsent s.me .active) := by
    unfold entered
    split
    · exact ⟨⟨⟨_, rfl, queue⟩, by simp [src, arrived], by simp [src, arrived],
        by simp [src, arrived]⟩, rfl,
        .inr rfl⟩
    · exact ⟨⟨⟨_, rfl, queue⟩, by simp [src, arrived], by simp [src, arrived],
        by simp [src, arrived]⟩, rfl,
        .inl rfl⟩
  split
  · rwa [State.enterLeaving_bus]
  · exact h1

/-- A commit at a member: it takes the station out, or its entry arrives and roster and sync list are
those after step 3 (R74, R105, R106). -/
theorem State.commitMember_bus (r : Record) (own : Bool) (ack : BitVec 8) (s : State) :
    s.bus.Recedes (s.commitMember r own ack).bus ∨
    s.bus.Commits r (s.commitMember r own ack).bus ∧
      (s.commitMember r own ack).bus.roster = (commitOf s r ack).after.roster ∧
      (s.commitMember r own ack).bus.syncList = (commitOf s r ack).after.list := by
  unfold State.commitMember
  extract_lets c entry src numbered ended installs moved phased told donating frozen
  split
  · left
    have out : (if own then ended.ownCommitted c.number else ended).bus = ended.bus := by
      split <;> simp
    rw [State.enterOutside_bus, out]
    have exit := BusUnit.Recedes.exit s.bus
    exact exit.congr (by simp [BusUnit.exit, ended, numbered, src]) rfl
      (by simp [BusUnit.exit, ended, numbered, src]) rfl rfl (by simp [BusUnit.exit, ended, numbered, src])
  · right
    have same : donating.bus = phased.bus := by
      simp only [donating, told, State.cursorAt_bus]
      split <;> simp
    have bus : frozen.bus = phased.bus := by
      unfold frozen
      split
      · rw [State.freezeBegins_bus, same]
      · exact same
    rw [State.setEventIf_bus, State.setEventIf_bus, bus]
    refine ⟨⟨⟨entry, rfl, ?_⟩, ?_, ?_, ?_⟩, ?_, ?_⟩ <;> simp [phased, moved, c, src]

/-- What a close does to the bus unit, the closed record already off the open list. -/
theorem State.closeAs_bus (drive : Drive) (o : OpenRecord) (ack : BitVec 8) (flt : Bool) (s : State) :
    s.bus.Recedes (s.closeAs drive o ack flt).bus ∨
    (∃ r, drive = .ack r ∧ s.closeAs drive o ack flt = s.commitMember r o.own ack) ∨
    s.closeAs drive o ack flt = s.commitJoin ack := by
  unfold State.closeAs
  split
  · split
    · exact .inl (s.abortOwn_recedes _)
    · exact .inl (.refl _)
  · rename_i r
    split
    · left
      unfold State.selfDrop
      dsimp only
      split
      · rw [State.endOwn_bus, State.enterOutside_bus]; exact .exit _
      · rw [State.enterOutside_bus]; exact .exit _
    · split
      · split
        · exact .inl (s.abortOwn_recedes _)
        · exact .inl (.refl _)
      · exact .inr (.inl ⟨r, rfl, rfl⟩)
  · split
    · exact .inl (.refl _)
    · split
      · exact .inl (s.abortOwn_recedes _)
      · split
        · exact .inr (.inr rfl)
        · exact .inl (.of_eq (by simp))

/-- The state at the close of a window, its record off the open list. -/
def State.offOpenList (rest : List OpenRecord) (s : State) : State :=
  { s with bus := { s.bus with openList := rest, window := none } }

/-- The close of a window in progress, but for the window that opens next and the choice. -/
theorem State.closeWindow_cases (ack : BitVec 8) (flt : Bool) (s : State) :
    s.closeWindow ack flt = s ∨ ∃ drive o rest, s.bus.window = some drive ∧
      s.bus.openList = o :: rest ∧ (s.closeWindow ack flt).bus =
        ((s.offOpenList rest).closeAs drive o ack flt).openWindow.bus := by
  unfold State.closeWindow
  split
  · rename_i drive o rest window openList
    exact .inr ⟨drive, o, rest, window, openList, State.choose_bus _⟩
  · exact .inl rfl

/-- The lists at the close of a window: a record has left the open list, and an entry has joined the
queue or not. -/
theorem State.closeWindow_lists (ack : BitVec 8) (flt : Bool) (s : State) :
    (s.closeWindow ack flt).bus.entriesToCome ≤ s.bus.entriesToCome ∧
    (s.closeWindow ack flt).bus.openList.length ≤ s.bus.openList.length := by
  rcases s.closeWindow_cases ack flt with same | ⟨drive, o, rest, -, openList, bus⟩
  · rw [same]; exact ⟨le_rfl, le_rfl⟩
  · have off : (s.offOpenList rest).bus.entriesToCome + 1 = s.bus.entriesToCome := by
      rw [BusUnit.entriesToCome_eq, BusUnit.entriesToCome_eq, openList, List.length_cons]
      show s.bus.applyQueue.length + rest.length + s.bus.carries.toNat + 1 = _
      omega
    have length : (s.offOpenList rest).bus.openList.length + 1 = s.bus.openList.length := by
      rw [openList]; rfl
    have opened : ∀ t : State, t.openWindow.bus.entriesToCome = t.bus.entriesToCome := fun t => by
      simp [BusUnit.entriesToCome]
    have commits : ∀ {r} {c : BusUnit}, (s.offOpenList rest).bus.Commits r c →
        c.entriesToCome ≤ s.bus.entriesToCome ∧ c.openList.length ≤ s.bus.openList.length := by
      intro r c h
      obtain ⟨e, -, queue⟩ := h.queue
      rw [h.openList]
      rw [BusUnit.entriesToCome_eq] at off ⊢
      have carries : c.carries = (s.offOpenList rest).bus.carries := by
        unfold BusUnit.carries; rw [h.transfer]
      rw [queue, h.openList, carries, List.length_append, List.length_singleton]
      omega
    have recedes : ∀ {c : BusUnit}, (s.offOpenList rest).bus.Recedes c →
        c.entriesToCome ≤ s.bus.entriesToCome ∧ c.openList.length ≤ s.bus.openList.length := by
      intro c h
      have := h.entries
      have := h.openList
      omega
    rw [bus, opened, State.openWindow_bus_openList]
    rcases (s.offOpenList rest).closeAs_bus drive o ack flt with h | ⟨r, -, h⟩ | h
    · exact recedes h
    · rw [h]
      rcases (s.offOpenList rest).commitMember_bus r o.own ack with h | ⟨h, -, -⟩
      · exact recedes h
      · exact commits h
    · rw [h]; exact commits ((s.offOpenList rest).commitJoin_bus ack).1

/-! ### The bounds of the replica's lists (R18, R131, R166) -/

/-- History, horizon, scan and FIND result keep their bounds. -/
structure Engine.Bounded (g : Engine) : Prop where
  history : g.history.length ≤ Config.historyMax
  horizon : g.horizon ≤ 64
  scan : g.scanBounded

theorem Engine.Keeps.bounded {g h : Engine} (k : g.Keeps h) (b : g.Bounded) : h.Bounded :=
  ⟨k.history ▸ b.history, k.horizon ▸ b.horizon, k.scan b.scan⟩

theorem Engine.reset_bounded : Engine.reset.Bounded :=
  ⟨Nat.zero_le _, le_rfl, Nat.zero_le _, fun _ none => nomatch none⟩

/-- The history holds at most 16 pairs (R18). -/
theorem appendHistory_length (history : List (CommitNo × Digest)) (x : CommitNo × Digest)
    (h : history.length ≤ Config.historyMax) :
    (appendHistory history x).length ≤ Config.historyMax := by
  unfold appendHistory
  rw [List.length_append, List.length_singleton]
  split
  · rw [List.length_drop]; simp only [Config.historyMax] at *; omega
  · simp only [Config.historyMax] at *; omega

/-- The record's effect keeps the bounds (R131 to R136). -/
theorem Course.effect_bounded (me : StationNo) (e : ApplyEntry) (c : Course) (b : c.engine.Bounded) :
    (c.effect me e).engine.Bounded := by
  unfold Course.effect
  split
  case h_7 =>
    have same : ∀ (sender : StationNo) (n : CommitNo) (d : Digest),
        (c.audit sender n d).engine.Bounded := fun sender n d => by
      unfold Course.audit
      split
      · split
        · exact b
        · exact ⟨b.history, b.horizon, b.scan⟩
      · exact b
    exact same _ _ _
  case h_8 =>
    split
    · exact ⟨Nat.zero_le _, Nat.zero_le _, b.scan⟩
    · exact b
  case h_9 =>
    split
    · exact ⟨b.history, by show _ + 1 ≤ 64; omega, b.scan⟩
    · exact b
  case h_10 =>
    split
    · exact ⟨b.history, b.horizon, b.scan⟩
    · exact b
  case h_11 =>
    split
    · exact ⟨b.history, le_rfl, b.scan⟩
    · exact b
  all_goals exact b

theorem Engine.applySteps_bounded (me : StationNo) (e : ApplyEntry) (g : Engine) (b : g.Bounded) :
    (g.applySteps me e).engine.Bounded := by
  unfold Engine.applySteps
  extract_lets start done w
  have h1 : done.engine.Bounded := by
    unfold done
    split
    · exact b
    · exact Course.effect_bounded me e start b
  refine ⟨?_, h1.horizon, h1.scan⟩
  show (if done.engine.historyRunning then _ else _ : List (CommitNo × Digest)).length ≤ _
  split
  · exact appendHistory_length _ _ h1.history
  · exact h1.history

theorem State.application_bounded (s : State) (b : s.engine.Bounded) :
    s.application.engine.Bounded := by
  unfold State.application
  split
  · exact b
  · rw [State.choose_engine]
    unfold State.applyEntry
    split
    · split
      · exact b
      · exact ⟨Nat.succ_le_of_lt (by decide : 0 < 16), le_rfl, b.scan⟩
    · split
      · rw [State.applySteps_engine]; exact Engine.applySteps_bounded _ _ _ b
      · exact b

theorem effectOf_bounded (c : Instr) (s : State) (b : s.engine.Bounded) :
    (effectOf c s).engine.Bounded := by
  rcases (effectOf_advance c s).engine with kept | reset | ⟨-, applied⟩ | ⟨-, -, -, -, before⟩
  · exact kept.bounded b
  · rw [reset]; exact Engine.reset_bounded
  · rw [applied]; exact s.application_bounded b
  · exact before.bounded
      (State.beforeWin_keeps (fun t => t.engine.Bounded) State.application_bounded s b)

/-! ### The bounds of the bus unit's lists (R25, R26, R68) -/

/-- The open list with the queue and the records that can still join it. -/
structure BusUnit.Bounded (b : BusUnit) : Prop where
  entries : b.entriesToCome ≤ Config.applyQueueMax
  openList : b.openList.length ≤ Config.openListMax

/-- A record that starts where there is room keeps the bounds: a member has throttled before, at any
other station the queue is empty (R25, R26). -/
theorem BusUnit.LetsGo.bounded {s : State} {c : BusUnit} (h : s.bus.LetsGo c) (room : s.roomToStart)
    (outsider : s.control.member = false → s.bus.applyQueue = []) (b : s.bus.Bounded) :
    c.Bounded := by
  have queued := h.queued
  have openList := h.openList
  have before := b.openList
  have carries : c.carries.toNat ≤ 1 := Bool.toNat_le _
  refine ⟨?_, openList.trans before⟩
  rw [BusUnit.entriesToCome_eq]
  simp only [Config.applyQueueMax, Config.openListMax] at *
  rcases member : s.control.member with _ | _
  · rw [outsider member, List.length_nil] at queued
    omega
  · obtain ⟨list, queue⟩ := room member
    simp only [Config.openListMax, Config.throttleAt] at list queue
    omega

theorem effectOf_busBounded (c : Instr) (s : State) (b : s.bus.Bounded)
    (outsider : s.control.member = false → s.bus.applyQueue = []) :
    (effectOf c s).bus.Bounded := by
  rcases effectOf_busChange c s with h | ⟨h, room⟩ | ⟨rest, mrs, -, h⟩ | ⟨ack, flt, -, h⟩
  · exact ⟨h.entries.trans b.entries, h.openList.trans b.openList⟩
  · exact h.bounded room outsider b
  · rw [h]
    rcases s.endTransfer_bus rest mrs with h | h
    · exact ⟨h.entries.trans b.entries, h.openList.trans b.openList⟩
    · exact ⟨h.entries.trans b.entries, by rw [h.openList]; exact h.room⟩
  · rw [h]
    obtain ⟨entries, openList⟩ := s.closeWindow_lists ack flt
    exact ⟨entries.trans b.entries, openList.trans b.openList⟩

/-- The bounds of the lists, block by block. -/
theorem State.listsBounded_iff (s : State) : s.listsBounded ↔ s.bus.Bounded ∧
    s.request.lrq.length ≤ Config.lrqMax ∧ s.engine.Bounded ∧ s.host.requestBytes.length ≤ 7 := by
  constructor
  · rintro ⟨entries, openList, lrq, history, bytes, horizon, result, scan⟩
    exact ⟨⟨entries, openList⟩, lrq, ⟨history, horizon, result, scan⟩, bytes⟩
  · rintro ⟨⟨entries, openList⟩, lrq, ⟨history, horizon, result, scan⟩, bytes⟩
    exact ⟨entries, openList, lrq, history, bytes, horizon, result, scan⟩

theorem effectOf_listsBounded (c : Instr) (s : State) (b : s.listsBounded)
    (outsider : s.outsiderHoldsNothing) : (effectOf c s).listsBounded := by
  rw [State.listsBounded_iff] at b ⊢
  obtain ⟨bus, lrq, engine, bytes⟩ := b
  have advance := effectOf_advance c s
  refine ⟨effectOf_busBounded c s bus fun member => ?_, advance.lrq lrq, effectOf_bounded c s engine,
    advance.host.bytes bytes⟩
  obtain ⟨-, queue, -⟩ := outsider member
  exact queue

/-- The apply queue is within the entries to come. -/
theorem State.listsBounded.queue {s : State} (b : s.listsBounded) :
    s.bus.applyQueue.length ≤ 8 := by
  have entries := b.1
  unfold BusUnit.entriesToCome at entries
  simp only [Config.applyQueueMax] at entries
  omega

end Sys2Proof.Machine
end

section
/-!
PROOFS. The roster and the sync list belong together after every step (R104 to R106).
-/
namespace Sys2Proof.Machine

/-! ### The steps of a commit on roster and sync list (R105, R106) -/

/-- The list holds each SYNCING station once and no other. -/
structure Standing.Matched (x : Standing) : Prop where
  nodup : x.list.Nodup
  syncing : ∀ k : StationNo, k ∈ x.list ↔ x.roster[k] = .syncing

theorem StandingInOrder.matched {roster : Roster} {list : List StationNo}
    (h : StandingInOrder roster list) : Standing.Matched ⟨roster, list⟩ := ⟨h.1, h.2.1⟩

/-- With no station on the list and none SYNCING the two belong together. -/
theorem StandingInOrder.of_empty {roster : Roster} (h : ∀ k : StationNo, roster[k] ≠ .syncing) :
    StandingInOrder roster [] :=
  ⟨List.nodup_nil, fun k => ⟨fun m => absurd m List.not_mem_nil, fun s => absurd s (h k)⟩, fun n => absurd rfl n,
    Nat.zero_le _⟩

theorem Roster.allAbsent_getElem (k : StationNo) : Roster.allAbsent[k] = .absent := by
  revert k; decide

theorem StandingInOrder.allAbsent : StandingInOrder Roster.allAbsent [] :=
  .of_empty fun k => by rw [Roster.allAbsent_getElem]; decide

/-- A roster entry of one station replaced, and the station taken off the list. -/
theorem Standing.Matched.replaced {x : Standing} (h : x.Matched) (k : StationNo) (p : Presence)
    (other : p ≠ .syncing) :
    Standing.Matched ⟨put x.roster k p, x.list.filter (fun j => j != k)⟩ := by
  refine ⟨h.nodup.filter _, fun j => ?_⟩
  by_cases same : k = j
  · subst same
    rw [getElem_put_same]
    simp [other]
  · rw [getElem_put_other _ _ _ _ same, ← h.syncing j]
    simp [Ne.symm same]

/-- Step 1 (R105). -/
theorem Standing.Matched.drop {x : Standing} (h : x.Matched) (drop : List StationNo) :
    (x.drop drop).Matched := by
  refine ⟨h.nodup.filter _, fun k => ?_⟩
  unfold Standing.drop
  rw [getElem_tab]
  by_cases gone : k ∈ drop
  · simp [gone]
  · rw [if_neg (by simpa using gone), ← h.syncing k]
    simp [gone]

/-- Step 2 (R105). -/
theorem Standing.Matched.effect {x : Standing} (h : x.Matched) (r : Record) :
    (x.effect r).Matched := by
  unfold Standing.effect
  split
  · refine ⟨?_, fun k => ?_⟩
    · rw [List.nodup_append]
      exact ⟨h.nodup.filter _, List.nodup_singleton _, by simp⟩
    · by_cases same : r.sender = k
      · subst same
        rw [getElem_put_same]
        simp
      · rw [getElem_put_other _ _ _ _ same, ← h.syncing k]
        simp [Ne.symm same]
  · exact h.replaced _ _ (by decide)
  · rename_i target _ _
    split
    · rename_i head
      obtain ⟨rest, list⟩ : ∃ rest, x.list = target :: rest := by
        rcases hl : x.list with _ | ⟨a, rest⟩
        · rw [hl] at head; cases head
        · rw [hl] at head; cases head; exact ⟨rest, rfl⟩
      have nodup := h.nodup
      rw [list, List.nodup_cons] at nodup
      have off : x.list.filter (fun j => j != target) = x.list.tail := by
        rw [list, List.filter_cons_of_neg (by simp), List.tail_cons, List.filter_eq_self]
        intro a m
        simp only [bne_iff_ne]
        rintro rfl
        exact nodup.1 m
      rw [← off]
      exact h.replaced _ _ (by decide)
    · exact h
  all_goals exact h

/-- Step 3 leaves roster and list in order: where joiners stand on the list some station is ACTIVE,
which is not on it, so at most seven are (R106). -/
theorem Standing.Matched.settle {x : Standing} (h : x.Matched) :
    StandingInOrder x.settle.roster x.settle.list := by
  unfold Standing.settle
  split
  · refine .of_empty fun k => ?_
    rw [getElem_tab]
    split <;> simp_all
  · rename_i donor
    have active : x.list ≠ [] → ∃ k : StationNo, x.roster[k] = .active := by
      intro some
      simpa [Standing.noDonor, some, mem_upTo] using donor
    refine ⟨h.nodup, h.syncing, active, ?_⟩
    by_cases empty : x.list = []
    · rw [empty]; exact Nat.zero_le _
    · obtain ⟨k, roster⟩ := active empty
      have off : k ∉ x.list := by rw [h.syncing k, roster]; decide
      have all := (List.nodup_cons.mpr ⟨off, h.nodup⟩).length_le_card
      simp only [List.length_cons, Fintype.card_fin] at all
      simp only [Config.syncListMax]
      omega

/-! ### The standing after a commit, a close and a step -/

/-- The standing after a commit at a member, where the roster and list carried belong together. -/
theorem commitOf_standing (s : State) (r : Record) (ack : BitVec 8) (own : s.standingInOrder)
    (carried : ∀ target number roster list, r.body = .snapHead target number roster list →
      StandingInOrder roster list) :
    StandingInOrder (commitOf s r ack).after.roster (commitOf s r ack).after.list := by
  unfold commitOf
  extract_lets mine used drop isVoid base holds mid
  have h1 : used.Matched := by
    unfold used
    split
    · rename_i number x head
      unfold carriedHead at head
      split at head
      · rename_i body
        split at head
        · cases head; exact (carried _ _ _ _ body).matched
        · cases head
      · cases head
    · exact own.matched
  have h2 : base.Matched := by
    unfold base
    split
    · exact own.matched
    · exact h1
  show StandingInOrder (if holds then mid.settle else mine).roster
    (if holds then mid.settle else mine).list
  split
  · rename_i yes
    have h3 : mid.Matched := by
      simp only [mid, yes, if_true, Standing.twoSteps]
      split
      · exact h2.drop _
      · exact (h2.drop _).effect _
    exact h3.settle
  · exact own

theorem BusUnit.LetsGo.standingInOrder {b c : BusUnit} (h : b.LetsGo c)
    (o : StandingInOrder b.roster b.syncList) : StandingInOrder c.roster c.syncList := by
  rcases h.standing with ⟨roster, list⟩ | ⟨roster, list⟩
  · rw [roster, list]; exact o
  · rw [roster, list]; exact .allAbsent

theorem State.closeWindow_standing (ack : BitVec 8) (flt : Bool) (s : State)
    (o : s.standingInOrder)
    (carried : ∀ r target number roster list, s.bus.window = some (.ack r) →
      r.body = .snapHead target number roster list → StandingInOrder roster list) :
    (s.closeWindow ack flt).standingInOrder := by
  unfold State.standingInOrder
  rcases s.closeWindow_cases ack flt with same | ⟨drive, opened, rest, window, -, bus⟩
  · rw [same]; exact o
  · have off : (s.offOpenList rest).standingInOrder := o
    rw [bus, State.openWindow_bus_roster, State.openWindow_bus_syncList]
    rcases (s.offOpenList rest).closeAs_bus drive opened ack flt with h | ⟨r, rfl, h⟩ | h
    · exact h.standingInOrder off
    · rw [h]
      rcases (s.offOpenList rest).commitMember_bus r opened.own ack with h | ⟨-, roster, list⟩
      · exact h.standingInOrder off
      · rw [roster, list]
        exact commitOf_standing _ r ack off fun target number roster list =>
          carried r target number roster list window
    · obtain ⟨-, list, roster⟩ := (s.offOpenList rest).commitJoin_bus ack
      rw [h, list]
      rcases roster with roster | roster
      · rw [roster]; exact .allAbsent
      · rw [roster]
        refine .of_empty fun k => ?_
        by_cases same : (s.offOpenList rest).me = k
        · rw [same, getElem_put_same]; decide
        · rw [getElem_put_other _ _ _ _ same, Roster.allAbsent_getElem]; decide

theorem effectOf_standing (c : Instr) (s : State) (o : s.standingInOrder)
    (carried : ∀ r target number roster list, s.bus.window = some (.ack r) →
      r.body = .snapHead target number roster list → StandingInOrder roster list) :
    (effectOf c s).standingInOrder := by
  rcases effectOf_busChange c s with h | ⟨h, -⟩ | ⟨rest, mrs, -, h⟩ | ⟨ack, flt, -, h⟩
  · exact h.standingInOrder o
  · exact h.standingInOrder o
  · rw [h]
    rcases s.endTransfer_bus rest mrs with h | h
    · exact h.standingInOrder o
    · unfold State.standingInOrder; rw [h.roster, h.list]; exact o
  · rw [h]; exact s.closeWindow_standing ack flt o carried

/-- Settles O57: the bounds block by block, the standing through the three steps of a commit. -/
theorem stepKeepsBounds : Obligations.StepKeepsBounds := by
  refine ⟨fun s t b outsider _ h => ?_, fun s t o carried h => ?_⟩
  · have kept : t.listsBounded := by
      rcases step_cases h with rfl | ⟨c, rest, -, rfl⟩
      · exact b
      · exact effectOf_listsBounded c _ b outsider
    exact ⟨kept, kept.queue⟩
  · rcases step_cases h with rfl | ⟨c, rest, -, rfl⟩
    · exact o
    · exact effectOf_standing c _ o carried

end Sys2Proof.Machine
end

section
/-!
PROOFS. Records read from the bus are well formed (R95), and records and claims stay so after every step
(R5, R8).
-/
namespace Sys2Proof.Machine

/-! ### What passes the form checks is well formed (R95, Table 23) -/

/-- The entries of a sync list that passes are different, one for each byte. -/
theorem parseStations_nodup (bytes : List Byte) (list : List StationNo)
    (h : parseStations bytes = some list) : list.Nodup ∧ list.length = bytes.length := by
  induction bytes generalizing list with
  | nil => cases h; exact ⟨List.nodup_nil, rfl⟩
  | cons b rest ih =>
    unfold parseStations at h
    split at h
    · rename_i k ks _ tail
      split at h
      · cases h
      · rename_i new
        cases h
        obtain ⟨nodup, length⟩ := ih ks tail
        exact ⟨List.nodup_cons.mpr ⟨by simpa using new, nodup⟩, by simp [length]⟩
    · cases h

/-- A claim that passes is as R5 and R8 allow. -/
theorem parseClaimBody_formed (bytes : List Byte) (i : SlotNo) (c : Claim)
    (h : parseClaimBody bytes = some (i, c)) : c.formed = true := by
  unfold parseClaimBody at h
  split at h
  · split at h
    · rename_i slot state holder pool cls bumped _ _ _ _ _ _
      dsimp only at h
      split at h
      · cases h
      · rename_i units
        split at h
        · cases h
        · cases h
          rcases present : heldStampPresent state bumped <;>
            simp_all [Claim.formed]
    · cases h
  · cases h

/-- Pool figures that pass are within the capacity and the number of slots. -/
theorem parsePoolBody_formed (bytes : List Byte) (p : PoolNo) (f : Pool)
    (h : parsePoolBody bytes = some (p, f)) :
    f.granted.toNat ≤ f.capacity.toNat ∧ f.waiting ≤ 64 := by
  unfold parsePoolBody at h
  split at h
  · split at h
    · dsimp only at h
      split at h
      · cases h
      · rename_i granted
        split at h
        · cases h
        · rename_i waiting
          cases h
          exact ⟨not_lt.mp granted, not_lt.mp waiting⟩
    · cases h
  · cases h

/-- A body that passes is that of a well-formed record. -/
theorem parseBody_formed (k : Kind) (target sender : StationNo) (bytes : List Byte) (b : Body)
    (h : parseBody k target bytes = some b) : (⟨sender, b⟩ : Record).formed = true := by
  unfold parseBody at h
  split at h
  · cases h
  · split at h
    · split at h <;> cases h; rfl
    · split at h <;> cases h; rfl
    · split at h
      · split at h
        · split at h
          · cases h
          · cases h; simp_all [Record.formed]
        · cases h
      · cases h
    · split at h
      · obtain ⟨slot, -, rfl⟩ := Option.map_eq_some_iff.mp h; rfl
      · cases h
    · split at h
      · split at h
        · cases h
        · obtain ⟨slot, -, rfl⟩ := Option.map_eq_some_iff.mp h; simp_all [Record.formed]
      · cases h
    · split at h
      · obtain ⟨pool, -, rfl⟩ := Option.map_eq_some_iff.mp h; rfl
      · cases h
    · split at h <;> cases h; rfl
    · unfold parseHeadBody at h
      split at h
      · split at h
        · rename_i roster list _ entries
          split at h
          · cases h
          · split at h
            · cases h
            · cases h
              obtain ⟨nodup, length⟩ := parseStations_nodup _ _ entries
              have few : list.length ≤ 7 := by omega
              simp [Record.formed, Config.syncListMax, nodup, few]
        · cases h
      · cases h
    · obtain ⟨⟨i, c⟩, claim, rfl⟩ := Option.map_eq_some_iff.mp h
      exact parseClaimBody_formed _ _ _ claim
    · obtain ⟨⟨p, f⟩, pool, rfl⟩ := Option.map_eq_some_iff.mp h
      simpa [Record.formed] using parsePoolBody_formed _ _ _ pool
    · split at h
      · split at h
        · cases h
        · cases h; simp only [Record.formed, decide_eq_true_eq]; omega
      · cases h

/-- Whatever passes the form checks is a well-formed record (R95). -/
theorem parseRecord_formed (bytes : List Byte) (r : Record) (h : parseRecord bytes = some r) :
    r.formed = true := by
  unfold parseRecord at h
  dsimp only at h
  split at h
  · cases h
  · split at h
    · split at h
      · obtain ⟨b, body, rfl⟩ := Option.map_eq_some_iff.mp h
        exact parseBody_formed _ _ _ _ _ body
      · cases h
    · cases h

/-! ### Records acknowledged and numbered -/

/-- The window's record and those of the queue are well formed. -/
def BusUnit.recordsFormed (b : BusUnit) : Prop :=
  (∀ r, b.window = some (.ack r) → r.formed = true) ∧
  ∀ e, e ∈ b.applyQueue → e.record.formed = true

theorem BusUnit.LetsGo.recordsFormed {b c : BusUnit} (h : b.LetsGo c) (f : b.recordsFormed) :
    c.recordsFormed :=
  ⟨fun r w => f.1 r (h.window r w), fun e m => f.2 e (h.queue e m)⟩

theorem BusUnit.Commits.recordsFormed {r : Record} {b c : BusUnit} (h : b.Commits r c)
    (f : b.recordsFormed) (new : r.formed = true) : c.recordsFormed := by
  obtain ⟨e, record, queue⟩ := h.queue
  refine ⟨fun r w => f.1 r (h.window ▸ w), fun x m => ?_⟩
  rw [queue, List.mem_append, List.mem_singleton] at m
  rcases m with m | rfl
  · exact f.2 x m
  · rw [record]; exact new

/-- The window that opens acknowledges a well-formed record or none. -/
theorem State.openWindow_recordsFormed (s : State) (f : s.bus.recordsFormed) :
    s.openWindow.bus.recordsFormed := by
  refine ⟨fun r w => ?_, by rw [State.openWindow_bus_applyQueue]; exact f.2⟩
  rcases s.openWindow_ack r w with before | ⟨bytes, read⟩
  · exact f.1 r before
  · exact parseRecord_formed bytes r read

theorem State.closeWindow_recordsFormed (ack : BitVec 8) (flt : Bool) (s : State)
    (f : s.bus.recordsFormed) : (s.closeWindow ack flt).bus.recordsFormed := by
  rcases s.closeWindow_cases ack flt with same | ⟨drive, o, rest, window, -, bus⟩
  · rw [same]; exact f
  · have off : (s.offOpenList rest).bus.recordsFormed := ⟨fun _ w => (nomatch w), f.2⟩
    rw [bus]
    apply State.openWindow_recordsFormed
    rcases (s.offOpenList rest).closeAs_bus drive o ack flt with h | ⟨r, rfl, h⟩ | h
    · exact h.recordsFormed off
    · rw [h]
      rcases (s.offOpenList rest).commitMember_bus r o.own ack with h | ⟨h, -⟩
      · exact h.recordsFormed off
      · exact h.recordsFormed off (f.1 r window)
    · rw [h]
      exact ((s.offOpenList rest).commitJoin_bus ack).1.recordsFormed off rfl

theorem effectOf_recordsFormed (c : Instr) (s : State) (f : s.recordsFormed) :
    (effectOf c s).recordsFormed := by
  rcases effectOf_busChange c s with h | ⟨h, -⟩ | ⟨rest, mrs, -, h⟩ | ⟨ack, flt, -, h⟩
  · exact h.recordsFormed f
  · exact h.recordsFormed f
  · rw [h]
    rcases s.endTransfer_bus rest mrs with h | h
    · exact h.recordsFormed f
    · refine ⟨fun r w => ?_, fun e m => f.2 e (h.queue ▸ m)⟩
      rcases h.window r w with before | ⟨bytes, read⟩
      · exact f.1 r before
      · exact parseRecord_formed bytes r read
  · rw [h]; exact s.closeWindow_recordsFormed ack flt f

end Sys2Proof.Machine
end

section
/-!
PROOFS. Rules of the tables: what the steps of an application keep, given that each single change of a
claim keeps it; and well-formed claims after every step (R5, R8).
-/
namespace Sys2Proof.Machine

/-! ### The loops of an application as their single changes (R35, R43) -/

/-- The HELD claims of a pool stand in its victim line (R43). -/
theorem mem_victimLine (now : CommitNo) (slots : Vector (Option Claim) 64) (p : PoolNo)
    (i : SlotNo) (c : Claim) :
    (i, c) ∈ victimLine now slots p ↔ slots[i] = some c ∧ c.pool = p ∧ c.state = .held := by
  rw [victimLine, (orderBy_perm _ _).mem_iff, mem_claimsOf]

section
variable {P : Work → Prop} (me : StationNo) (now : CommitNo)

/-- What the admission of any waiting claim that fits keeps, a pass keeps (R35). -/
theorem Work.pass_keeps (p : PoolNo)
    (admits : ∀ (w : Work) (i : SlotNo) (c : Claim), P w → w.slots[i] = some c → c.pool = p →
      c.state = .waiting → fits w.pools[p] c.units = true → P (w.admitClaim me now p i c))
    (fuel : Nat) (w : Work) (h : P w) : P (w.pass me now p fuel) := by
  induction fuel generalizing w with
  | zero => exact h
  | succ fuel ih =>
    unfold Work.pass
    split
    · exact h
    · rename_i i c rest line
      obtain ⟨slot, pool, state⟩ := (mem_waitLine now w.slots p i c).mp (by rw [line]; simp)
      split
      · rename_i room
        exact ih _ (admits w i c h slot pool state room)
      · exact h

/-- What the taking of any HELD claim as a victim keeps, the loop keeps (R43). -/
theorem Work.shed_keeps (p : PoolNo) (capacity : BitVec 16)
    (take : ∀ (w : Work) (i : SlotNo) (c : Claim), P w → w.slots[i] = some c → c.pool = p →
      c.state = .held → P (w.takeVictim me p capacity i c))
    (fuel : Nat) (w : Work) (bumped ejected : Nat) (h : P w) :
    P (Work.shed me now p capacity fuel (w, bumped, ejected)).1 := by
  induction fuel generalizing w bumped ejected with
  | zero => exact h
  | succ fuel ih =>
    unfold Work.shed
    split
    · exact h
    · split
      · exact h
      · rename_i i c rest line
        obtain ⟨slot, pool, state⟩ := (mem_victimLine now w.slots p i c).mp (by rw [line]; simp)
        have taken := take w i c h slot pool state
        split
        · exact ih _ _ _ taken
        · exact ih _ _ _ taken

/-- What each step of a fold keeps, the fold keeps. -/
theorem foldl_keeps {α β : Type} {Q : β → Prop} (f : β → α → β) (step : ∀ a b, Q b → Q (f b a))
    (l : List α) (b : β) (h : Q b) : Q (l.foldl f b) := by
  induction l generalizing b with
  | nil => exact h
  | cons a l ih => exact ih _ (step a b h)

/-- What every admission and every change of an admission-due flag keeps, steps 4 and 5 keep
(R35 to R37). -/
theorem Work.admission_keeps
    (admits : ∀ (p : PoolNo) (w : Work) (i : SlotNo) (c : Claim), P w → w.slots[i] = some c →
      c.pool = p → c.state = .waiting → fits w.pools[p] c.units = true →
      P (w.admitClaim me now p i c))
    (flag : ∀ (p : PoolNo) (due : Bool) (w : Work), P w →
      P (w.setPool p { w.pools[p] with due := due }))
    (after ended : Bool) (w : Work) (h : P w) : P (w.admission me now after ended) := by
  have pass : ∀ (p : PoolNo) (w : Work), P w → P (w.pass me now p 64) := fun p =>
    Work.pass_keeps me now p (admits p) 64
  have four : ∀ (p : PoolNo) (w : Work), P w → P (w.admissionFor me now after p) := by
    intro p w h
    unfold Work.admissionFor
    split
    · split
      · exact flag p true w h
      · exact pass p w h
    · exact h
  have five : ∀ (p : PoolNo) (w : Work), P w → P (w.owedFor me now p) := by
    intro p w h
    unfold Work.owedFor
    split
    · exact flag p false _ (pass p w h)
    · exact h
  have w4 := foldl_keeps (fun v p => v.admissionFor me now after p) four (upTo 8) w h
  unfold Work.admission
  extract_lets v
  split
  · exact foldl_keeps (fun v p => v.owedFor me now p) five (upTo 8) v w4
  · exact w4

end

/-! ### A mark leaves the tables (R22) -/

@[simp] theorem Work.mark_slots (me : StationNo) (c : Claim) (i : SlotNo) (cause : Cause) (w : Work) :
    (w.mark me c i cause).slots = w.slots := by
  unfold Work.mark; split <;> rfl

@[simp] theorem Work.mark_pools (me : StationNo) (c : Claim) (i : SlotNo) (cause : Cause) (w : Work) :
    (w.mark me c i cause).pools = w.pools := by
  unfold Work.mark; split <;> rfl

@[simp] theorem Work.mark_touched (me : StationNo) (c : Claim) (i : SlotNo) (cause : Cause)
    (w : Work) : (w.mark me c i cause).touched = w.touched := by
  unfold Work.mark; split <;> rfl

/-- The claim that an admission leaves in its slot (R35). -/
def Claim.admitted (now : CommitNo) (c : Claim) : Claim := { c with state := .held, heldStamp := some now }

/-- The claim that a bump leaves in its slot (R43). -/
def Claim.bump (c : Claim) : Claim := { c with state := .waiting, bumped := true }

theorem Work.admitClaim_slots (me : StationNo) (now : CommitNo) (p : PoolNo) (i : SlotNo) (c : Claim)
    (w : Work) : (w.admitClaim me now p i c).slots = put w.slots i (some (c.admitted now)) :=
  Work.mark_slots _ _ _ _ _

/-- What a victim leaves in its slot: nothing when its units exceed the capacity, else its bump. -/
theorem Work.takeVictim_slots (me : StationNo) (p : PoolNo) (capacity : BitVec 16) (i : SlotNo)
    (c : Claim) (w : Work) : (w.takeVictim me p capacity i c).slots =
      put w.slots i (if capacity.toNat < c.units.toNat then none else some c.bump) := by
  unfold Work.takeVictim
  split <;> exact Work.mark_slots _ _ _ _ _

/-! ### Well-formed claims (R5, R8) -/

/-- Every claim of a table is well formed. -/
def SlotsFormed (slots : Vector (Option Claim) 64) : Prop :=
  ∀ (i : SlotNo) (c : Claim), slots[i] = some c → c.formed = true

theorem Claim.formed_iff (c : Claim) : c.formed = true ↔
    c.units ≠ 0#16 ∧ c.heldStamp.isSome = heldStampPresent c.state c.bumped := by
  simp [Claim.formed]

theorem Claim.admitted_formed {c : Claim} (now : CommitNo) (f : c.formed = true) :
    (c.admitted now).formed = true := by
  rw [Claim.formed_iff] at f ⊢
  exact ⟨f.1, rfl⟩

/-- A HELD claim keeps its held-stamp when it is bumped (R8, R43). -/
theorem Claim.bump_formed {c : Claim} (held : c.state = .held) (f : c.formed = true) :
    c.bump.formed = true := by
  rw [Claim.formed_iff] at f ⊢
  exact ⟨f.1, f.2.trans (by rw [held]; rfl)⟩

theorem emptySlots_getElem (i : SlotNo) : emptySlots[i] = none := by
  simp [emptySlots]

theorem SlotsFormed.empty : SlotsFormed emptySlots := fun i c slot => by
  rw [emptySlots_getElem] at slot; cases slot

theorem SlotsFormed.put {slots : Vector (Option Claim) 64} (f : SlotsFormed slots) (i : SlotNo)
    (x : Option Claim) (new : ∀ c, x = some c → c.formed = true) :
    SlotsFormed (put slots i x) := by
  intro j c slot
  by_cases same : i = j
  · subst same; rw [getElem_put_same] at slot; exact new c slot
  · rw [getElem_put_other _ _ _ _ same] at slot; exact f j c slot

/-- Slots freed leave well-formed claims. -/
theorem SlotsFormed.freed {slots : Vector (Option Claim) 64} (f : SlotsFormed slots)
    (gone : SlotNo → Bool) : SlotsFormed (tab fun i => if gone i then none else slots[i]) := by
  intro i c slot
  rw [getElem_tab] at slot
  split at slot
  · cases slot
  · exact f i c slot

theorem Work.admission_formed (me : StationNo) (now : CommitNo) (after ended : Bool) (w : Work)
    (f : SlotsFormed w.slots) : SlotsFormed (w.admission me now after ended).slots := by
  refine Work.admission_keeps (P := fun v => SlotsFormed v.slots) me now ?_ (fun _ _ _ h => h)
    after ended w f
  intro p v i c h slot _ _ _
  rw [Work.admitClaim_slots]
  refine h.put i _ fun d new => ?_
  cases new
  exact Claim.admitted_formed now (h i c slot)

theorem Work.claim_formed (now : CommitNo) (sender : StationNo) (p : PoolNo) (units : BitVec 16)
    (k : Fin 4) (wait : Bool) (tag : Byte) (w : Work) (f : SlotsFormed w.slots)
    (some : units ≠ 0#16) : SlotsFormed (w.claim now sender p units k wait tag).1.slots := by
  unfold Work.claim
  dsimp only
  split
  · exact f
  · split
    · exact f
    · split
      · exact f
      · rename_i i _
        split
        · refine f.put i _ fun d new => ?_
          cases new
          exact (Claim.formed_iff _).mpr ⟨some, rfl⟩
        · split
          · refine f.put i _ fun d new => ?_
            cases new
            exact (Claim.formed_iff _).mpr ⟨some, rfl⟩
          · exact f

theorem Work.release_formed (sender : StationNo) (i : SlotNo) (tag : Byte) (w : Work)
    (f : SlotsFormed w.slots) : SlotsFormed (w.release sender i tag).1.slots := by
  unfold Work.release
  split
  · exact f.put i none fun c none => nomatch none
  · exact f

/-- The claim that matches stands in the slot. -/
theorem matching_eq_some (slots : Vector (Option Claim) 64) (sender : StationNo) (i : SlotNo)
    (tag : Byte) (c : Claim) (h : matching slots sender i tag = some c) : slots[i] = some c :=
  (Option.filter_eq_some_iff.mp h).1

theorem Work.trim_formed (sender : StationNo) (i : SlotNo) (tag : Byte) (units : BitVec 16) (w : Work)
    (f : SlotsFormed w.slots) (some : units ≠ 0#16) :
    SlotsFormed (w.trim sender i tag units).1.slots := by
  unfold Work.trim
  split
  · exact f
  · rename_i c found
    split
    · exact f
    · refine f.put i _ fun d new => ?_
      cases new
      have old := (Claim.formed_iff c).mp (f i c (matching_eq_some _ _ _ _ _ found))
      exact (Claim.formed_iff _).mpr ⟨some, old.2⟩

theorem Work.setcap_formed (me : StationNo) (now : CommitNo) (p : PoolNo) (capacity : BitVec 16)
    (w : Work) (f : SlotsFormed w.slots) : SlotsFormed (w.setcap me now p capacity).1.slots := by
  refine Work.shed_keeps (P := fun v => SlotsFormed v.slots) me now p capacity ?_ 64
    (w.setCapacity me p capacity).1 0 _ (f.freed _)
  intro v i c h slot _ held
  rw [Work.takeVictim_slots]
  refine h.put i _ fun d new => ?_
  split at new
  · cases new
  · cases new; exact Claim.bump_formed held (h i c slot)

/-- The effect of a well-formed record keeps the claims well formed. -/
theorem Course.effect_formed (me : StationNo) (e : ApplyEntry) (c : Course)
    (f : SlotsFormed c.work.slots) (r : e.record.formed = true) :
    SlotsFormed (c.effect me e).work.slots := by
  unfold Record.formed at r
  unfold Course.effect
  split <;> rename_i body <;> rw [body] at r
  · exact f
  · exact f
  · exact Work.claim_formed _ _ _ _ _ _ _ _ f (by simpa using r)
  · exact Work.release_formed _ _ _ _ f
  · exact Work.trim_formed _ _ _ _ _ f (by simpa using r)
  · exact Work.setcap_formed _ _ _ _ _ f
  · unfold Course.audit
    split
    · split <;> exact f
    · exact f
  · split
    · exact .empty
    · exact f
  · split
    · intro i d slot
      simp only [Course.installClaim] at slot
      rw [getElem_tab] at slot
      split at slot
      · split at slot
        · cases slot
        · cases slot; exact r
      · split at slot
        · cases slot
        · exact f i d slot
    · exact f
  · split <;> exact f
  · split <;> exact f

/-- The claims after the seven steps are those of the work. -/
theorem Engine.applySteps_slots (me : StationNo) (e : ApplyEntry) (g : Engine) :
    (g.applySteps me e).engine.slots = (workOf me e g).slots := rfl

theorem Engine.applySteps_pools (me : StationNo) (e : ApplyEntry) (g : Engine) :
    (g.applySteps me e).engine.pools = (workOf me e g).pools := rfl

theorem workOf_formed (me : StationNo) (e : ApplyEntry) (g : Engine) (f : SlotsFormed g.slots)
    (r : e.record.formed = true) : SlotsFormed (workOf me e g).slots := by
  have start : SlotsFormed (g.begin.dropStep (goneAt e) g.horizon g.installed).slots := f.freed _
  apply Work.admission_formed
  split
  · exact start
  · exact Course.effect_formed me e _ start r

/-! ### Well-formed claims after every step -/

/-- The entries of the queue and the claims are well formed. -/
def State.appliesFormed (s : State) : Prop :=
  (∀ e ∈ s.bus.applyQueue, e.record.formed = true) ∧ SlotsFormed s.engine.slots

theorem State.application_formed (s : State) (f : s.appliesFormed) : s.application.appliesFormed := by
  obtain ⟨records, claims⟩ := f
  refine ⟨fun e m => records e (s.application_recedes.queue e m), ?_⟩
  unfold State.application
  split
  · exact claims
  · rename_i e rest queue
    rw [State.choose_engine]
    unfold State.applyEntry
    split
    · split
      · exact claims
      · exact .empty
    · split
      · rw [State.applySteps_engine, Engine.applySteps_slots]
        exact workOf_formed _ _ _ claims (records e (by rw [queue]; simp))
      · exact claims

theorem effectOf_claimsFormed (c : Instr) (s : State) (records : s.recordsFormed)
    (claims : s.claimsFormed) : (effectOf c s).claimsFormed := by
  have now : s.appliesFormed := ⟨records.2, claims⟩
  rcases (effectOf_advance c s).engine with kept | reset | ⟨-, applied⟩ | ⟨-, -, -, -, before⟩
  · unfold State.claimsFormed; rw [kept.slots]; exact claims
  · unfold State.claimsFormed; rw [reset]; exact SlotsFormed.empty
  · unfold State.claimsFormed; rw [applied]; exact (s.application_formed now).2
  · unfold State.claimsFormed; rw [before.slots]
    exact (State.beforeWin_keeps State.appliesFormed State.application_formed s now).2

/-- Settles O58: what is acknowledged has passed the form checks, and each change of a claim keeps it well
formed. -/
theorem stepKeepsClaimsFormed : Obligations.StepKeepsClaimsFormed := by
  intro s t records claims h
  rcases step_cases h with rfl | ⟨c, rest, -, rfl⟩
  · exact ⟨records, claims⟩
  · exact ⟨effectOf_recordsFormed c _ records, effectOf_claimsFormed c _ records claims⟩

end Sys2Proof.Machine
end

section
/-!
PROOFS. The counts of the pools and the claim table: what each single change of a claim does to both, and
the agreement of the two after every step (R3).
-/
namespace Sys2Proof.Machine

/-! ### Counts of the claim table as sums over its slots -/

/-- What the claim of a slot counts for pool `p` in state `st`, by its weight. -/
def share (p : PoolNo) (st : ClaimState) (weight : Claim → Nat) : Option Claim → Nat
  | some c => if c.pool = p ∧ c.state = st then weight c else 0
  | none => 0

/-- The weights of the claims of pool `p` in state `st`, summed over the slots. -/
def total (slots : Vector (Option Claim) 64) (p : PoolNo) (st : ClaimState) (weight : Claim → Nat) :
    Nat := ∑ i : SlotNo, share p st weight slots[i]

/-- The units of a claim. -/
def unitsOf (c : Claim) : Nat := c.units.toNat

/-- A claim as one. -/
def oneEach (_ : Claim) : Nat := 1

theorem sumOver_eq (n : Nat) (f : Fin n → Nat) : sumOver n f = ∑ i, f i := by
  simp [sumOver, upTo, List.sum_ofFn]

theorem countOver_eq (n : Nat) (q : Fin n → Bool) : countOver n q = ∑ i, if q i then 1 else 0 := by
  rw [← sumOver_eq]
  unfold countOver sumOver
  induction upTo n with
  | nil => rfl
  | cons i l ih => by_cases h : q i <;> simp [h, ih, Nat.add_comm]

/-- The sum of weights over the claims listed is the sum over the slots. -/
theorem sum_claimsOf (slots : Vector (Option Claim) 64) (p : PoolNo) (st : ClaimState)
    (weight : Claim → Nat) :
    ((claimsOf slots p st).map (fun x => weight x.2)).sum = total slots p st weight := by
  have list : ∀ l : List SlotNo, ((l.filterMap fun i => match slots[i] with
      | some c => if c.pool == p && c.state == st then some (i, c) else none
      | none => none).map (fun x => weight x.2)).sum =
      (l.map fun i => share p st weight slots[i]).sum := by
    intro l
    induction l with
    | nil => rfl
    | cons i l ih =>
      rw [List.map_cons, List.sum_cons, ← ih, List.filterMap_cons]
      rcases slots[i] with _ | c
      · simp [share]
      · by_cases mine : c.pool = p ∧ c.state = st <;> simp [share, mine]
  exact (list (upTo 64)).trans (sumOver_eq 64 _)

theorem length_claimsOf (slots : Vector (Option Claim) 64) (p : PoolNo) (st : ClaimState) :
    (claimsOf slots p st).length = total slots p st oneEach := by
  rw [← sum_claimsOf]; simp [oneEach]

/-- One slot replaced: the count loses what the old claim counted and gains what the new one does. -/
theorem total_put (slots : Vector (Option Claim) 64) (i : SlotNo) (x : Option Claim) (p : PoolNo)
    (st : ClaimState) (weight : Claim → Nat) :
    total (put slots i x) p st weight + share p st weight slots[i] =
      total slots p st weight + share p st weight x := by
  unfold total
  rw [← Finset.add_sum_erase _ _ (Finset.mem_univ i),
    ← Finset.add_sum_erase _ (fun j : SlotNo => share p st weight slots[j]) (Finset.mem_univ i),
    getElem_put_same]
  have rest : ∑ j ∈ Finset.univ.erase i, share p st weight (put slots i x)[j] =
      ∑ j ∈ Finset.univ.erase i, share p st weight slots[j] :=
    Finset.sum_congr rfl fun j m => by
      rw [getElem_put_other _ _ _ _ (Finset.ne_of_mem_erase m).symm]
  rw [rest]
  omega

/-- Slots freed: what they counted leaves the count. -/
theorem total_freed (slots : Vector (Option Claim) 64) (gone : SlotNo → Bool) (p : PoolNo)
    (st : ClaimState) (weight : Claim → Nat) :
    total (tab fun i => if gone i then none else slots[i]) p st weight +
      (∑ i : SlotNo, if gone i then share p st weight slots[i] else 0) =
      total slots p st weight := by
  unfold total
  rw [← Finset.sum_add_distrib]
  refine Finset.sum_congr rfl fun i _ => ?_
  rw [getElem_tab]
  by_cases h : gone i <;> simp [h, share]

/-- What a claim counts is within the count. -/
theorem share_le_total (slots : Vector (Option Claim) 64) (i : SlotNo) (p : PoolNo) (st : ClaimState)
    (weight : Claim → Nat) : share p st weight slots[i] ≤ total slots p st weight :=
  Finset.single_le_sum (f := fun j : SlotNo => share p st weight slots[j])
    (fun _ _ => Nat.zero_le _) (Finset.mem_univ i)

/-! ### Pool records that count their claims (R3) -/

/-- Granted and waiting count of a pool record are those of the claim table. -/
structure Counts (x : Pool) (slots : Vector (Option Claim) 64) (p : PoolNo) : Prop where
  granted : x.granted.toNat = total slots p .held unitsOf
  waiting : x.waiting = total slots p .waiting oneEach

/-- The agreement of the pool records with the claims is that each counts its claims, within its
capacity. -/
theorem poolsAgree_iff (pools : Vector Pool 8) (slots : Vector (Option Claim) 64) :
    PoolsAgree pools slots ↔ ∀ p : PoolNo, Counts pools[p] slots p ∧
      pools[p].granted.toNat ≤ pools[p].capacity.toNat := by
  refine forall_congr' fun p => ?_
  constructor
  · rintro ⟨granted, waiting, within⟩
    exact ⟨⟨granted.trans (sum_claimsOf slots p .held unitsOf),
      waiting.trans (length_claimsOf slots p .waiting)⟩, within⟩
  · rintro ⟨⟨granted, waiting⟩, within⟩
    exact ⟨granted.trans (sum_claimsOf slots p .held unitsOf).symm,
      waiting.trans (length_claimsOf slots p .waiting).symm, within⟩

/-- Every pool record counts its claims. -/
def Work.counted (w : Work) : Prop := ∀ p : PoolNo, Counts w.pools[p] w.slots p

/-- Every pool record agrees with its claims. -/
def Work.agrees (w : Work) : Prop := PoolsAgree w.pools w.slots

theorem Work.agrees.counted {w : Work} (h : w.agrees) : w.counted := fun p =>
  ((poolsAgree_iff _ _).mp h p).1

theorem Work.agrees.within {w : Work} (h : w.agrees) (p : PoolNo) :
    w.pools[p].granted.toNat ≤ w.pools[p].capacity.toNat := ((poolsAgree_iff _ _).mp h p).2

/-- One claim and the record of its pool changed together: if the record follows what the slot counts,
every record still counts its claims. -/
theorem Work.counted.change {w v : Work} (h : w.counted) (i : SlotNo) (x : Option Claim) (p : PoolNo)
    (f : Pool) (pools : v.pools = put w.pools p f) (slots : v.slots = put w.slots i x)
    (old : ∀ c, w.slots[i] = some c → c.pool = p) (new : ∀ c, x = some c → c.pool = p)
    (granted : f.granted.toNat + share p .held unitsOf w.slots[i] =
      w.pools[p].granted.toNat + share p .held unitsOf x)
    (waiting : f.waiting + share p .waiting oneEach w.slots[i] =
      w.pools[p].waiting + share p .waiting oneEach x) : v.counted := by
  intro q
  rw [pools, slots]
  have changed := fun st weight => total_put w.slots i x q st weight
  have before := h q
  by_cases same : p = q
  · subst same
    rw [getElem_put_same]
    have units := changed .held unitsOf
    have ones := changed .waiting oneEach
    have g := before.granted
    have n := before.waiting
    exact ⟨by omega, by omega⟩
  · rw [getElem_put_other _ _ _ _ same]
    have none : ∀ (y : Option Claim) st weight, (∀ c, y = some c → c.pool = p) →
        share q st weight y = 0 := by
      intro y st weight mine
      rcases y with _ | c
      · rfl
      · have pool := mine c rfl
        simp [share, pool, same]
    have kept : ∀ st weight, total w.slots q st weight = total (put w.slots i x) q st weight := by
      intro st weight
      have := changed st weight
      rw [none _ _ _ old, none _ _ _ new] at this
      omega
    exact ⟨before.granted.trans (kept _ _), before.waiting.trans (kept _ _)⟩

/-- What a claim counts for its own pool. -/
theorem share_mine (c : Claim) (st : ClaimState) (weight : Claim → Nat) :
    share c.pool st weight (some c) = if c.state = st then weight c else 0 := by
  simp [share]

/-- The units of a HELD claim are within granted, a WAITING claim within the waiting count. -/
theorem Work.counted.mine {w : Work} (h : w.counted) (i : SlotNo) (c : Claim)
    (slot : w.slots[i] = some c) :
    (c.state = .held → c.units.toNat ≤ w.pools[c.pool].granted.toNat) ∧
    (c.state = .waiting → 1 ≤ w.pools[c.pool].waiting) := by
  have counts := h c.pool
  refine ⟨fun held => ?_, fun waits => ?_⟩
  · have le := share_le_total w.slots i c.pool .held unitsOf
    rw [slot, share_mine, if_pos held] at le
    rw [counts.granted]; exact le
  · have le := share_le_total w.slots i c.pool .waiting oneEach
    rw [slot, share_mine, if_pos waits] at le
    rw [counts.waiting]; exact le

theorem toNat_sub_units (x y : BitVec 16) (h : y.toNat ≤ x.toNat) : (x - y).toNat + y.toNat = x.toNat := by
  rw [BitVec.toNat_sub_of_le (by rwa [BitVec.le_def])]; omega

/-- Units that fit join granted without a carry. -/
theorem fits_granted (f : Pool) (units : BitVec 16) (h : fits f units = true) :
    (f.granted + units).toNat = f.granted.toNat + units.toNat ∧
    (f.granted + units).toNat ≤ f.capacity.toNat := by
  have room : f.granted.toNat + units.toNat ≤ f.capacity.toNat := by simpa [fits] using h
  have sum : (f.granted + units).toNat = f.granted.toNat + units.toNat := by
    rw [BitVec.toNat_add, Nat.mod_eq_of_lt (by have := f.capacity.isLt; omega)]
  exact ⟨sum, by omega⟩

/-! ### The single changes of a claim -/

/-- The claim of a slot named is of the pool it names. -/
theorem pool_of_slot {slots : Vector (Option Claim) 64} {i : SlotNo} {c : Claim}
    (slot : slots[i] = some c) : ∀ d, slots[i] = some d → d.pool = c.pool := fun d same => by
  rw [slot] at same; cases same; rfl

/-- A claim freed (R3). -/
theorem Work.counted.free {w : Work} (h : w.counted) (i : SlotNo) (c : Claim)
    (slot : w.slots[i] = some c) : (w.free i c).counted := by
  obtain ⟨units, waiter⟩ := h.mine i c slot
  refine h.change i none c.pool (w.pools[c.pool].without c) rfl rfl (pool_of_slot slot)
    (fun d none => nomatch none) ?_ ?_
  all_goals
    rw [slot, share_mine]
    rcases state : c.state <;> simp only [Pool.without, state, share, unitsOf, oneEach, reduceCtorEq,
      if_true, if_false, Nat.add_zero]
  · exact toNat_sub_units _ _ (units state)
  · have := waiter state; omega

/-- A mark leaves the counts. -/
theorem Work.counted.mark {w : Work} (h : w.counted) (me : StationNo) (c : Claim) (i : SlotNo)
    (cause : Cause) : (w.mark me c i cause).counted := by
  unfold Work.counted
  rw [Work.mark_pools, Work.mark_slots]
  exact h

/-- A waiting claim that fits admitted (R35). -/
theorem Work.counted.admitClaim {w : Work} (h : w.counted) (me : StationNo) (now : CommitNo)
    (p : PoolNo) (i : SlotNo) (c : Claim) (slot : w.slots[i] = some c) (pool : c.pool = p)
    (waits : c.state = .waiting) (room : fits w.pools[p] c.units = true) :
    (w.admitClaim me now p i c).counted := by
  subst pool
  have waiter := (h.mine i c slot).2 waits
  obtain ⟨sum, -⟩ := fits_granted _ _ room
  refine h.change i _ c.pool _ (Work.mark_pools _ _ _ _ _) (Work.mark_slots _ _ _ _ _)
    (pool_of_slot slot) (fun d new => by cases new; rfl) ?_ ?_
  · rw [slot, share_mine, waits]
    simpa [share, unitsOf] using sum
  · rw [slot, share_mine, waits]
    simpa [share, oneEach] using Nat.sub_add_cancel waiter

/-- A HELD claim taken as a victim (R43). -/
theorem Work.counted.takeVictim {w : Work} (h : w.counted) (me : StationNo) (p : PoolNo)
    (capacity : BitVec 16) (i : SlotNo) (c : Claim) (slot : w.slots[i] = some c) (pool : c.pool = p)
    (held : c.state = .held) : (w.takeVictim me p capacity i c).counted := by
  subst pool
  unfold Work.takeVictim
  split
  · exact (h.free i c slot).mark me c i .ejected
  · apply Work.counted.mark
    refine h.change i _ c.pool _ rfl rfl (pool_of_slot slot) (fun d new => by cases new; rfl) ?_ ?_
    · rw [slot, share_mine, held]
      simpa [share, unitsOf] using toNat_sub_units _ _ ((h.mine i c slot).1 held)
    · rw [slot, share_mine, held]
      simp [share, oneEach]

end Sys2Proof.Machine
end

section
/-!
PROOFS. The pool records stay in step with the claim table (R3): through step 1, through the effect of
each record but those by which a station receives the tables anew, through the admission, and so through
every step.
-/
namespace Sys2Proof.Machine

/-! ### Agreement: the counts, and granted within the capacity -/

theorem Work.counted.agrees {w : Work} (h : w.counted)
    (within : ∀ p : PoolNo, w.pools[p].granted.toNat ≤ w.pools[p].capacity.toNat) : w.agrees :=
  (poolsAgree_iff _ _).mpr fun p => ⟨h p, within p⟩

/-- Where one record is replaced, granted stays within the capacity if it does in the new record. -/
theorem Work.agrees.within_put {w : Work} (h : w.agrees) (p : PoolNo) (f : Pool)
    (new : f.granted.toNat ≤ f.capacity.toNat) (q : PoolNo) :
    (put w.pools p f)[q].granted.toNat ≤ (put w.pools p f)[q].capacity.toNat := by
  by_cases same : p = q
  · subst same; rw [getElem_put_same]; exact new
  · rw [getElem_put_other _ _ _ _ same]; exact h.within q

/-- The claims of an empty table count nothing. -/
theorem total_empty (p : PoolNo) (st : ClaimState) (weight : Claim → Nat) :
    total emptySlots p st weight = 0 :=
  Finset.sum_eq_zero fun i _ => by rw [emptySlots_getElem]; rfl

theorem emptyPools_getElem (p : PoolNo) : emptyPools[p] = ⟨0#16, 0#16, 0, false⟩ := by
  simp [emptyPools, Pool.zero]

/-- Empty tables agree. -/
theorem PoolsAgree.empty : PoolsAgree emptyPools emptySlots :=
  (poolsAgree_iff _ _).mpr fun p => by
    rw [emptyPools_getElem]
    exact ⟨⟨(total_empty ..).symm, (total_empty ..).symm⟩, Nat.le_refl _⟩

/-- A HELD claim freed or lowered leaves granted within the capacity. -/
theorem toNat_sub_le (x y : BitVec 16) (h : y.toNat ≤ x.toNat) : (x - y).toNat ≤ x.toNat := by
  have := toNat_sub_units x y h
  omega

/-! ### Step 1 (R32) -/

/-- The units that step 1 frees of a pool, as a sum over its slots. -/
theorem freedUnitsOf_eq (gone : StationNo → Bool) (horizon : Nat) (slots : Vector (Option Claim) 64)
    (p : PoolNo) : freedUnitsOf gone horizon slots p =
      ∑ i : SlotNo, if freedAt gone horizon slots i then share p .held unitsOf slots[i] else 0 := by
  unfold freedUnitsOf
  rw [sumOver_eq]
  refine Finset.sum_congr rfl fun i _ => ?_
  unfold freedOf
  by_cases gone : freedAt gone horizon slots i = true
  · rw [if_pos gone, if_pos gone]
    rcases slots[i] with _ | c
    · rfl
    · by_cases mine : c.pool = p ∧ c.state = .held <;> simp [share, mine, unitsOf, Option.filter]
  · rw [if_neg gone, if_neg gone]

/-- The waiters that step 1 frees of a pool, as a sum over its slots. -/
theorem freedWaitingOf_eq (gone : StationNo → Bool) (horizon : Nat)
    (slots : Vector (Option Claim) 64) (p : PoolNo) : freedWaitingOf gone horizon slots p =
      ∑ i : SlotNo, if freedAt gone horizon slots i then share p .waiting oneEach slots[i] else 0 := by
  unfold freedWaitingOf
  rw [countOver_eq]
  refine Finset.sum_congr rfl fun i _ => ?_
  unfold freedOf
  by_cases gone : freedAt gone horizon slots i = true
  · rw [if_pos gone, if_pos gone]
    rcases slots[i] with _ | c
    · rfl
    · by_cases mine : c.pool = p ∧ c.state = .waiting <;> simp [share, mine, oneEach]
  · rw [if_neg gone, if_neg gone]; rfl

/-- Step 1 keeps the agreement where every pool is installed. -/
theorem Work.agrees.dropStep {w : Work} (h : w.agrees) (gone : StationNo → Bool) (horizon : Nat)
    (installed : Vector Bool 8) (all : ∀ p : PoolNo, installed[p] = true) :
    (w.dropStep gone horizon installed).agrees := by
  refine (poolsAgree_iff _ _).mpr fun p => ?_
  have before := h.counted p
  have units := total_freed w.slots (freedAt gone horizon w.slots) p .held unitsOf
  have waiters := total_freed w.slots (freedAt gone horizon w.slots) p .waiting oneEach
  rw [← freedUnitsOf_eq, ← before.granted] at units
  rw [← freedWaitingOf_eq, ← before.waiting] at waiters
  have small : (BitVec.ofNat 16 (freedUnitsOf gone horizon w.slots p)).toNat =
      freedUnitsOf gone horizon w.slots p :=
    (BitVec.toNat_ofNat _ _).trans
      (Nat.mod_eq_of_lt (by have := w.pools[p].granted.isLt; omega))
  have lowered := toNat_sub_units w.pools[p].granted
    (BitVec.ofNat 16 (freedUnitsOf gone horizon w.slots p)) (by omega)
  have within := h.within p
  have record : (w.dropStep gone horizon installed).pools[p] = { w.pools[p] with
      granted := w.pools[p].granted - BitVec.ofNat 16 (freedUnitsOf gone horizon w.slots p)
      waiting := w.pools[p].waiting - freedWaitingOf gone horizon w.slots p } := by
    unfold Work.dropStep
    rw [getElem_tab, if_pos (all p)]
  rw [record]
  refine ⟨⟨?_, ?_⟩, ?_⟩
  · show _ = total (tab _) p .held unitsOf
    dsimp only
    omega
  · show _ = total (tab _) p .waiting oneEach
    dsimp only
    omega
  · dsimp only
    omega

/-! ### Step 3: CLAIM, RELEASE and TRIM (R38 to R41) -/

/-- The slot available is FREE. -/
theorem availableSlot_free {slots : Vector (Option Claim) 64} {n : CommitNo} {i : SlotNo}
    (h : availableSlot slots n = some i) : slots[i] = none := by
  unfold availableSlot at h
  split at h
  · cases h
  · simpa using List.find?_some h

theorem Work.agrees.claim {w : Work} (h : w.agrees) (now : CommitNo) (sender : StationNo) (p : PoolNo)
    (units : BitVec 16) (k : Fin 4) (wait : Bool) (tag : Byte) :
    (w.claim now sender p units k wait tag).1.agrees := by
  unfold Work.claim
  dsimp only
  split
  · exact h
  · split
    · exact h
    · split
      · exact h
      · rename_i i found
        have free := availableSlot_free found
        have old : ∀ d, w.slots[i] = some d → d.pool = p := fun d slot => by
          rw [free] at slot; cases slot
        split
        · rename_i room
          obtain ⟨sum, within⟩ := fits_granted w.pools[p] units (by simp at room; exact room.1)
          refine (h.counted.change i _ p _ rfl rfl old (fun d new => by cases new; rfl) ?_ ?_).agrees
            (h.within_put p _ within)
          · rw [free]; simpa [share, unitsOf] using sum
          · rw [free]; simp [share]
        · split
          · refine (h.counted.change i _ p _ rfl rfl old (fun d new => by cases new; rfl) ?_ ?_).agrees
              (h.within_put p _ (h.within p))
            · rw [free]; simp [share]
            · rw [free]; simp [share, oneEach]
          · exact h

theorem Pool.without_within {p : Pool} {c : Claim} (h : p.granted.toNat ≤ p.capacity.toNat)
    (units : c.state = .held → c.units.toNat ≤ p.granted.toNat) :
    (p.without c).granted.toNat ≤ (p.without c).capacity.toNat := by
  unfold Pool.without
  split
  · rename_i held
    exact (toNat_sub_le _ _ (units held)).trans h
  · exact h

theorem Work.agrees.release {w : Work} (h : w.agrees) (sender : StationNo) (i : SlotNo) (tag : Byte) :
    (w.release sender i tag).1.agrees := by
  unfold Work.release
  split
  · rename_i c found
    have slot := matching_eq_some _ _ _ _ _ found
    have freed : (w.free i c).agrees := (h.counted.free i c slot).agrees
      (h.within_put _ _ (Pool.without_within (h.within _) (h.counted.mine i c slot).1))
    exact freed
  · exact h

theorem Work.agrees.trim {w : Work} (h : w.agrees) (sender : StationNo) (i : SlotNo) (tag : Byte)
    (units : BitVec 16) : (w.trim sender i tag units).1.agrees := by
  unfold Work.trim
  split
  · exact h
  · rename_i c found
    have slot := matching_eq_some _ _ _ _ _ found
    have mine := (h.counted.mine i c slot).1
    split
    · exact h
    · rename_i falls
      have part := toNat_sub_units c.units units (by omega)
      refine (h.counted.change i (some { c with units := units }) c.pool _ rfl rfl (pool_of_slot slot)
        (fun d new => by cases new; rfl) ?_ ?_).agrees (h.within_put _ _ ?_)
      · rw [slot, share_mine]
        rcases state : c.state <;> simp only [share, unitsOf, and_true, reduceCtorEq, if_true, if_false,
          and_false]
        have := toNat_sub_units w.pools[c.pool].granted (c.units - units)
          (by have := mine state; omega)
        omega
      · rw [slot, share_mine]
        rcases c.state <;> simp [share, oneEach]
      · rcases state : c.state
        · exact (toNat_sub_le _ _ (by have := mine state; omega)).trans (h.within _)
        · exact h.within _

/-! ### Step 3: SETCAP (R42 to R44) -/

/-- The ejected waiters of a pool, as a sum over its slots. -/
theorem ejected_eq (slots : Vector (Option Claim) 64) (p : PoolNo) (capacity : BitVec 16) :
    countOver 64 (ejectsWaiter slots p capacity) =
      ∑ i : SlotNo, if ejectsWaiter slots p capacity i then share p .waiting oneEach slots[i] else 0 := by
  rw [countOver_eq]
  refine Finset.sum_congr rfl fun i _ => ?_
  unfold ejectsWaiter
  rcases slots[i] with _ | c
  · rfl
  · by_cases mine : c.pool = p ∧ c.state = .waiting <;> simp [share, mine, oneEach]

/-- Waiters ejected count for nothing but the waiting count of their pool. -/
theorem ejected_other (slots : Vector (Option Claim) 64) (p q : PoolNo) (st : ClaimState)
    (weight : Claim → Nat) (capacity : BitVec 16) (other : p = q → st ≠ .waiting) :
    (∑ i : SlotNo, if ejectsWaiter slots p capacity i then share q st weight slots[i] else 0) = 0 := by
  refine Finset.sum_eq_zero fun i _ => ?_
  unfold ejectsWaiter
  rcases slots[i] with _ | c
  · rfl
  · by_cases mine : c.pool = p ∧ c.state = .waiting
    · obtain ⟨rfl, waits⟩ := mine
      have : ¬ (c.pool = q ∧ c.state = st) := fun ⟨same, state⟩ => other same (state ▸ waits)
      simp [share, this]
    · simp [mine]

/-- The first phase of a SETCAP keeps the counts. -/
theorem Work.counted.setCapacity {w : Work} (h : w.counted) (me : StationNo) (p : PoolNo)
    (capacity : BitVec 16) : (w.setCapacity me p capacity).1.counted := by
  intro q
  have before := h q
  have freed := fun st weight => total_freed w.slots (ejectsWaiter w.slots p capacity) q st weight
  have units := freed .held unitsOf
  have waiters := freed .waiting oneEach
  rw [ejected_other _ _ _ _ _ _ (fun _ => by decide), ← before.granted] at units
  rw [← before.waiting] at waiters
  unfold Work.setCapacity
  dsimp only
  by_cases same : p = q
  · subst same
    rw [← ejected_eq] at waiters
    rw [getElem_put_same]
    exact ⟨by dsimp only; omega, by dsimp only; omega⟩
  · rw [ejected_other _ _ _ _ _ _ (fun eq => absurd eq same)] at waiters
    rw [getElem_put_other _ _ _ _ same]
    exact ⟨by omega, by omega⟩

/-- A SETCAP under way: the counts follow, the pool has the new capacity and the other records stay. -/
structure Work.Shedding (p : PoolNo) (capacity : BitVec 16) (v before : Work) : Prop where
  counted : v.counted
  capacity : v.pools[p].capacity = capacity
  others : ∀ q : PoolNo, q ≠ p → v.pools[q] = before.pools[q]

/-- The record of the pool of a victim. -/
theorem Work.takeVictim_pools (me : StationNo) (p : PoolNo) (capacity : BitVec 16) (i : SlotNo)
    (c : Claim) (w : Work) (pool : c.pool = p) (held : c.state = .held) :
    (w.takeVictim me p capacity i c).pools = put w.pools p { w.pools[p] with
      granted := w.pools[p].granted - c.units
      waiting := w.pools[p].waiting + if capacity.toNat < c.units.toNat then 0 else 1 } := by
  subst pool
  unfold Work.takeVictim
  split
  · rw [Work.mark_pools]
    simp [Work.free, Work.setPool, Work.setSlot, Pool.without, held]
  · rw [Work.mark_pools]
    rfl

theorem Work.Shedding.takeVictim {p : PoolNo} {capacity : BitVec 16} {before v : Work}
    (h : v.Shedding p capacity before) (me : StationNo) (i : SlotNo) (c : Claim)
    (slot : v.slots[i] = some c) (pool : c.pool = p) (held : c.state = .held) :
    (v.takeVictim me p capacity i c).Shedding p capacity before := by
  refine ⟨h.counted.takeVictim me p capacity i c slot pool held, ?_, fun q other => ?_⟩
  · rw [Work.takeVictim_pools me p capacity i c v pool held, getElem_put_same]
    exact h.capacity
  · rw [Work.takeVictim_pools me p capacity i c v pool held, getElem_put_other _ _ _ _ other.symm]
    exact h.others q other

/-- A victim leaves the HELD claims of its pool. -/
theorem Work.takeVictim_held (me : StationNo) (p : PoolNo) (capacity : BitVec 16) (i : SlotNo)
    (c : Claim) (w : Work) (slot : w.slots[i] = some c) (pool : c.pool = p) (held : c.state = .held) :
    total (w.takeVictim me p capacity i c).slots p .held oneEach + 1 =
      total w.slots p .held oneEach := by
  subst pool
  have changed := total_put w.slots i (if capacity.toNat < c.units.toNat then none else some c.bump)
    c.pool .held oneEach
  have nothing : share c.pool .held oneEach
      (if capacity.toNat < c.units.toNat then none else some c.bump) = 0 := by
    split <;> simp [share, Claim.bump]
  rw [nothing, slot, share_mine, if_pos held] at changed
  rw [Work.takeVictim_slots]
  simpa only [oneEach, Nat.add_zero] using changed

/-- Granted of the pool is within the capacity. -/
def Work.grantedWithin (p : PoolNo) (capacity : BitVec 16) (w : Work) : Prop :=
  w.pools[p].granted.toNat ≤ capacity.toNat

/-- A pool without HELD claims has granted within any capacity. -/
theorem Work.counted.grantedWithin_of_none {w : Work} (h : w.counted) (p : PoolNo)
    (capacity : BitVec 16) (empty : claimsOf w.slots p .held = []) : w.grantedWithin p capacity := by
  unfold Work.grantedWithin
  rw [(h p).granted, ← sum_claimsOf, empty]
  exact Nat.zero_le _

/-- The victim loop ends with granted within the capacity, given a round for each HELD claim (R43). -/
theorem Work.shed_within (me : StationNo) (now : CommitNo) (p : PoolNo) (capacity : BitVec 16)
    (fuel : Nat) (w : Work) (bumped ejected : Nat) (h : w.counted)
    (rounds : total w.slots p .held oneEach ≤ fuel) :
    (Work.shed me now p capacity fuel (w, bumped, ejected)).1.grantedWithin p capacity := by
  induction fuel generalizing w bumped ejected with
  | zero =>
    have empty : claimsOf w.slots p .held = [] := by
      rw [← List.length_eq_zero_iff, length_claimsOf]; omega
    exact h.grantedWithin_of_none p capacity empty
  | succ fuel ih =>
    unfold Work.shed
    split
    · assumption
    · split
      · rename_i line
        have empty : claimsOf w.slots p .held = [] := by
          have perm := orderBy_perm (victimAhead now) (claimsOf w.slots p .held)
          rw [victimLine] at line
          rw [line] at perm
          exact perm.nil_eq.symm
        exact h.grantedWithin_of_none p capacity empty
      · rename_i i c rest line
        obtain ⟨slot, pool, held⟩ := (mem_victimLine now w.slots p i c).mp (by rw [line]; simp)
        have taken := h.takeVictim me p capacity i c slot pool held
        have fewer := Work.takeVictim_held me p capacity i c w slot pool held
        split
        · exact ih _ _ _ taken (by omega)
        · exact ih _ _ _ taken (by omega)

/-- A pool has at most 64 claims in a state. -/
theorem total_oneEach_le (slots : Vector (Option Claim) 64) (p : PoolNo) (st : ClaimState) :
    total slots p st oneEach ≤ 64 := by
  have bound : ∀ i ∈ (Finset.univ : Finset SlotNo), share p st oneEach slots[i] ≤ 1 := by
    intro i _
    rcases slots[i] with _ | c
    · exact Nat.zero_le _
    · unfold share; dsimp only; split <;> simp [oneEach]
  simpa [total] using Finset.sum_le_card_nsmul _ _ 1 bound

theorem Work.agrees.setcap {w : Work} (h : w.agrees) (me : StationNo) (now : CommitNo) (p : PoolNo)
    (capacity : BitVec 16) : (w.setcap me now p capacity).1.agrees := by
  have first : (w.setCapacity me p capacity).1.Shedding p capacity w := by
    refine ⟨h.counted.setCapacity me p capacity, ?_, fun q other => ?_⟩
    · unfold Work.setCapacity; dsimp only; rw [getElem_put_same]
    · unfold Work.setCapacity; dsimp only; rw [getElem_put_other _ _ _ _ other.symm]
  have last := Work.shed_keeps (P := fun v => v.Shedding p capacity w) me now p capacity
    (fun v i c h slot pool held => h.takeVictim me i c slot pool held) 64 _ 0
    (w.setCapacity me p capacity).2 first
  have within := Work.shed_within me now p capacity 64 _ 0 (w.setCapacity me p capacity).2
    first.counted (total_oneEach_le _ _ _)
  refine Work.counted.agrees last.counted fun q => ?_
  by_cases same : q = p
  · subst same
    exact within.trans (congrArg BitVec.toNat last.capacity).ge
  · have other := last.others q same
    exact (congrArg (fun x : Pool => x.granted.toNat) other).le.trans
      ((h.within q).trans (congrArg (fun x : Pool => x.capacity.toNat) other).ge)

/-! ### Steps 4 and 5 (R35 to R37) -/

/-- A change of an admission-due flag leaves the agreement. -/
theorem Work.agrees.flag {w : Work} (h : w.agrees) (p : PoolNo) (due : Bool) :
    (w.setPool p { w.pools[p] with due := due }).agrees := by
  refine (poolsAgree_iff _ _).mpr fun q => ?_
  have before := (poolsAgree_iff _ _).mp h q
  unfold Work.setPool
  dsimp only
  by_cases same : p = q
  · subst same; rw [getElem_put_same]; exact ⟨⟨before.1.granted, before.1.waiting⟩, before.2⟩
  · rw [getElem_put_other _ _ _ _ same]; exact before

theorem Work.agrees.admitClaim {w : Work} (h : w.agrees) (me : StationNo) (now : CommitNo)
    (p : PoolNo) (i : SlotNo) (c : Claim) (slot : w.slots[i] = some c) (pool : c.pool = p)
    (waits : c.state = .waiting) (room : fits w.pools[p] c.units = true) :
    (w.admitClaim me now p i c).agrees := by
  refine (h.counted.admitClaim me now p i c slot pool waits room).agrees fun q => ?_
  unfold Work.admitClaim
  rw [Work.mark_pools]
  exact h.within_put p _ (fits_granted _ _ room).2 q

theorem Work.agrees.admission {w : Work} (h : w.agrees) (me : StationNo) (now : CommitNo)
    (after ended : Bool) : (w.admission me now after ended).agrees :=
  Work.admission_keeps me now
    (fun p _ i c h slot pool waits room => h.admitClaim me now p i c slot pool waits room)
    (fun p due _ h => h.flag p due) after ended w h

/-! ### One application -/

/-- The tables of a course agree, every pool is installed and the horizon is 64. -/
structure Course.InStep (c : Course) : Prop where
  agrees : c.work.agrees
  horizon : c.engine.horizon = 64
  installed : ∀ p : PoolNo, c.engine.installed[p] = true

theorem Course.InStep.audit {c : Course} (h : c.InStep) (sender : StationNo) (n : CommitNo)
    (d : Digest) : (c.audit sender n d).InStep := by
  unfold Course.audit
  split
  · split
    · exact h
    · exact ⟨h.agrees, h.horizon, h.installed⟩
  · exact h

/-- The effect of a record keeps the course in step, unless it gives this station the tables anew. -/
theorem Course.InStep.effect {c : Course} (h : c.InStep) (me : StationNo) (e : ApplyEntry)
    (old : e.record.body.target = some me → e.record.body.kind = .snapEnd) :
    (c.effect me e).InStep := by
  have ordinary : ∀ r : Work × Decision, r.1.agrees → (c.decide r).InStep :=
    fun _ agrees => ⟨agrees, h.horizon, h.installed⟩
  have foreign : ∀ target, e.record.body.target = some target → e.record.body.kind ≠ .snapEnd →
      target ≠ me := fun target addressed kind same => kind (old (same ▸ addressed))
  unfold Course.effect
  split <;> rename_i body <;> rw [body] at foreign
  · exact h
  · exact h
  · exact ordinary _ (h.agrees.claim _ _ _ _ _ _ _)
  · exact ordinary _ (h.agrees.release _ _ _)
  · exact ordinary _ (h.agrees.trim _ _ _ _)
  · exact ordinary _ (h.agrees.setcap _ _ _ _)
  · have audited := h.audit e.record.sender
    exact ⟨(audited _ _).agrees, (audited _ _).horizon, (audited _ _).installed⟩
  · rw [if_neg (foreign _ rfl (by simp [Body.kind]))]; exact h
  · rw [if_neg (foreign _ rfl (by simp [Body.kind]))]; exact h
  · rw [if_neg (foreign _ rfl (by simp [Body.kind]))]; exact h
  · split
    · exact ⟨h.agrees, rfl, h.installed⟩
    · exact h

/-- The pool records of a replica are in step with its claims. -/
def Engine.inStep (g : Engine) : Prop :=
  PoolsAgree g.pools g.slots ∧ g.horizon = 64 ∧ ∀ p : PoolNo, g.installed[p] = true

theorem Engine.Keeps.inStep {g h : Engine} (k : g.Keeps h) (f : g.inStep) : h.inStep := by
  unfold Engine.inStep
  rw [k.pools, k.slots, k.horizon, k.installed]
  exact f

/-- The founding values are in step (R46). -/
theorem Engine.found_inStep (g : Engine) : g.found.inStep :=
  ⟨.empty, rfl, fun p => by simp [Engine.found]⟩

theorem Engine.reset_inStep : Engine.reset.inStep :=
  ⟨.empty, rfl, fun p => by simp [Engine.reset]⟩

/-- The seven steps keep the replica in step, unless they give this station the tables anew. -/
theorem Engine.inStep.applySteps {g : Engine} (h : g.inStep) (me : StationNo) (e : ApplyEntry)
    (old : e.record.body.target = some me → e.record.body.kind = .snapEnd) :
    (g.applySteps me e).engine.inStep := by
  obtain ⟨agrees, horizon, installed⟩ := h
  have begun : g.begin.agrees := agrees
  have start : Course.InStep
      ⟨g, g.begin.dropStep (goneAt e) g.horizon g.installed, none, false⟩ :=
    ⟨begun.dropStep _ _ _ installed, horizon, installed⟩
  have effect : ∀ c : Course, c.InStep → (if e.isVoid then c else c.effect me e).InStep := by
    intro c h
    split
    · exact h
    · exact h.effect me e old
  have done := effect _ start
  exact ⟨done.agrees.admission _ _ _ _, done.horizon, done.installed⟩

/-! ### Every step -/

/-- The replica is in step, and no entry of the queue gives this station the tables anew. -/
def State.staysInStep (s : State) : Prop :=
  s.engine.inStep ∧ ∀ e ∈ s.bus.applyQueue,
    e.record.body.target = some s.me → e.record.body.kind = .snapEnd

/-- An application keeps the replica in step, unless it gives this station the tables anew. -/
theorem State.application_inStep (s : State) (h : s.engine.inStep)
    (old : ∀ e, s.bus.applyQueue.head? = some e →
      e.record.body.target = some s.me → e.record.body.kind = .snapEnd) :
    s.application.engine.inStep := by
  unfold State.application
  split
  · exact h
  · rename_i e rest queue
    rw [State.choose_engine]
    unfold State.applyEntry
    split
    · split
      · exact h
      · exact Engine.found_inStep _
    · split
      · rw [State.applySteps_engine]
        exact h.applySteps _ e (old e (by rw [queue]; rfl))
      · exact h

theorem State.application_staysInStep (s : State) (h : s.staysInStep) :
    s.application.staysInStep := by
  obtain ⟨now, old⟩ := h
  refine ⟨s.application_inStep now fun e head => old e (List.mem_of_head? head), ?_⟩
  rw [State.me, State.application_bus]
  exact fun e m => old e (List.mem_of_mem_tail m)

/-- Before the win of the entry AUDIT the replica stays in step. -/
theorem State.beforeWin_inStep (s : State) (h : s.engine.inStep)
    (old : s.ownIsEntryAudit = true → s.snapEndWaits = true → ∀ e ∈ s.bus.applyQueue,
      e.record.body.target = some s.me → e.record.body.kind = .snapEnd) :
    s.beforeWin.engine.inStep := by
  by_cases audit : s.ownIsEntryAudit = true
  · by_cases waits : s.snapEndWaits = true
    · exact (State.beforeWin_keeps State.staysInStep State.application_staysInStep s
        ⟨h, old audit waits⟩).1
    · rw [State.beforeWin_of_applied s (by simpa using waits)]; exact h
  · rw [State.beforeWin_of_other s (by simpa using audit)]; exact h

/-- Settles O59: each change of a claim changes the record of its pool by what the claim counts. -/
theorem applicationKeepsPoolsInStep : Obligations.ApplicationKeepsPoolsInStep := by
  intro s t h applied won step
  rcases step_cases step with rfl | ⟨c, rest, queue, rfl⟩
  · exact h
  · have front : s.pending.head? = some c := by rw [queue]; rfl
    rcases (effectOf_advance c { s with pending := rest }).engine with
      kept | reset | ⟨command, same⟩ | ⟨req, thr, started, command, kept⟩
    · exact kept.inStep h
    · exact (reset ▸ Engine.reset_inStep : Engine.inStep _)
    · have now := State.application_inStep { s with pending := rest } h
        (applied (command ▸ front))
      exact (same ▸ now : Engine.inStep _)
    · exact kept.inStep (State.beforeWin_inStep { s with pending := rest } h
        (won req thr started (command ▸ front)))

end Sys2Proof.Machine
end

section
/-!
PROOFS. The wait line of a pool (R13): its order, what it holds, and that the claims of the pool
determine it.
-/
namespace Sys2Proof.Machine

/-! ### The order of the wait line -/

/-- The order of the wait line in numbers: class, stamp age, slot. -/
theorem waitsAhead_iff (now : CommitNo) (x y : SlotNo × Claim) : waitsAhead now x y = true ↔
    y.2.cls.val < x.2.cls.val ∨ x.2.cls.val = y.2.cls.val ∧
      ((age now y.2.stamp).toNat < (age now x.2.stamp).toNat ∨
        (age now x.2.stamp).toNat = (age now y.2.stamp).toNat ∧ x.1.val < y.1.val) := by
  simp [waitsAhead, Fin.ext_iff, BitVec.toNat_eq]

theorem waitsAhead_trans (now : CommitNo) (x y z : SlotNo × Claim) (xy : waitsAhead now x y = true)
    (yz : waitsAhead now y z = true) : waitsAhead now x z = true := by
  rw [waitsAhead_iff] at *
  omega

/-- Two claims in different slots are ordered. -/
theorem waitsAhead_total (now : CommitNo) (x y : SlotNo × Claim) (slots : x.1 ≠ y.1) :
    waitsAhead now x y = true ∨ waitsAhead now y x = true := by
  rw [waitsAhead_iff, waitsAhead_iff]
  have := Fin.val_ne_of_ne slots
  omega

theorem waitsAhead_irrefl (now : CommitNo) (x : SlotNo × Claim) : ¬ waitsAhead now x x = true := by
  rw [waitsAhead_iff]
  omega

theorem waitsAhead_asymm (now : CommitNo) (x y : SlotNo × Claim) (xy : waitsAhead now x y = true) :
    ¬ waitsAhead now y x = true := fun yx =>
  waitsAhead_irrefl now x (waitsAhead_trans now x y x xy yx)

/-- A list put in an order is ordered, where the order is total on its members and transitive. -/
theorem orderBy_pairwise {α : Type} (ahead : α → α → Bool) (l : List α)
    (total : l.Pairwise fun x y => ahead x y = true ∨ ahead y x = true)
    (trans : ∀ x y z, ahead x y = true → ahead y z = true → ahead x z = true) :
    (orderBy ahead l).Pairwise fun x y => ahead x y = true := by
  induction l with
  | nil => exact .nil
  | cons x xs ih =>
    obtain ⟨first, others⟩ := List.pairwise_cons.mp total
    refine insertBefore_pairwise ahead x _ (fun y m behind => ?_) (fun y _ z _ => trans x y z)
      (ih others)
    have either := first y ((orderBy_perm ahead xs).mem_iff.mp m)
    exact either.resolve_left (by simp [behind])

/-! ### The wait line -/

/-- The claims of a pool stand in slot order. -/
theorem claimsOf_ascending (slots : Vector (Option Claim) 64) (p : PoolNo) (st : ClaimState) :
    (claimsOf slots p st).Pairwise fun x y => x.1 < y.1 := by
  have own : ∀ (i : SlotNo) (x : SlotNo × Claim), (match slots[i] with
      | some c => if c.pool == p && c.state == st then some (i, c) else none
      | none => none) = some x → x.1 = i := by
    intro i x found
    split at found
    · split at found
      · cases found; rfl
      · cases found
    · cases found
  have numbers : (upTo 64).Pairwise (· < ·) := List.pairwise_ofFn.mpr fun _ _ h => h
  refine numbers.filterMap _ fun i j less x xi y yj => ?_
  rw [own i x xi, own j y yj]
  exact less

theorem waitLine_pairwise (now : CommitNo) (slots : Vector (Option Claim) 64) (p : PoolNo) :
    (waitLine now slots p).Pairwise fun x y => waitsAhead now x y = true :=
  orderBy_pairwise _ _
    ((claimsOf_ascending slots p .waiting).imp fun less => waitsAhead_total now _ _ (Fin.ne_of_lt less))
    (waitsAhead_trans now)

/-- No slot stands twice in the wait line. -/
theorem waitLine_slots (now : CommitNo) (slots : Vector (Option Claim) 64) (p : PoolNo) :
    (waitLine now slots p).Pairwise fun x y => x.1 ≠ y.1 :=
  ((orderBy_perm _ _).pairwise_iff fun h => h.symm).mpr
    ((claimsOf_ascending slots p .waiting).imp Fin.ne_of_lt)

theorem waitLine_nodup (now : CommitNo) (slots : Vector (Option Claim) 64) (p : PoolNo) :
    (waitLine now slots p).Nodup :=
  (waitLine_slots now slots p).imp fun other same => other (congrArg Prod.fst same)

/-- A pool has at most 64 waiters. -/
theorem length_waitLine_le (now : CommitNo) (slots : Vector (Option Claim) 64) (p : PoolNo) :
    (waitLine now slots p).length ≤ 64 := by
  rw [waitLine, (orderBy_perm _ _).length_eq, length_claimsOf]
  exact total_oneEach_le slots p .waiting

/-- An ordered list of the waiters of a pool is its wait line. -/
theorem waitLine_unique (now : CommitNo) (slots : Vector (Option Claim) 64) (p : PoolNo)
    (l : List (SlotNo × Claim)) (ordered : l.Pairwise fun x y => waitsAhead now x y = true)
    (waiters : ∀ i c, (i, c) ∈ l ↔ slots[i] = some c ∧ c.pool = p ∧ c.state = .waiting) :
    waitLine now slots p = l := by
  have : Std.Irrefl fun x y => waitsAhead now x y = true := ⟨waitsAhead_irrefl now⟩
  have : Std.Antisymm fun x y => waitsAhead now x y = true :=
    ⟨fun x y xy yx => absurd yx (waitsAhead_asymm now x y xy)⟩
  exact (waitLine_pairwise now slots p).eq_of_mem_iff ordered fun ⟨i, c⟩ =>
    (mem_waitLine now slots p i c).trans (waiters i c).symm

/-- The wait line depends on the claims of its pool alone. -/
theorem waitLine_congr (now : CommitNo) (slots after : Vector (Option Claim) 64) (p : PoolNo)
    (same : ∀ (i : SlotNo) (c : Claim), c.pool = p → (slots[i] = some c ↔ after[i] = some c)) :
    waitLine now after p = waitLine now slots p :=
  waitLine_unique now after p _ (waitLine_pairwise now slots p) fun i c => by
    rw [mem_waitLine]
    exact and_congr_left fun mine => same i c mine.1

/-- The head of the wait line taken out of the waiters leaves the rest of the line. -/
theorem waitLine_put (now : CommitNo) (slots : Vector (Option Claim) 64) (p : PoolNo)
    (i : SlotNo) (c d : Claim) (rest : List (SlotNo × Claim))
    (line : waitLine now slots p = (i, c) :: rest) (held : d.state = .held) :
    waitLine now (put slots i (some d)) p = rest := by
  have ordered := waitLine_pairwise now slots p
  have different := waitLine_slots now slots p
  rw [line] at ordered different
  obtain ⟨-, ordered⟩ := List.pairwise_cons.mp ordered
  obtain ⟨different, -⟩ := List.pairwise_cons.mp different
  refine waitLine_unique now _ p rest ordered fun j b => ?_
  have before := mem_waitLine now slots p j b
  rw [line, List.mem_cons] at before
  by_cases same : i = j
  · subst same
    rw [getElem_put_same]
    refine ⟨fun m => absurd rfl (different (i, b) m), fun ⟨new, _, waits⟩ => ?_⟩
    cases new
    rw [held] at waits; cases waits
  · rw [getElem_put_other _ _ _ _ same, ← before]
    exact ⟨Or.inr, fun m => m.resolve_left fun eq => same (congrArg Prod.fst eq).symm⟩

end Sys2Proof.Machine
end

section
/-!
PROOFS. An admission pass admits a front part of the wait line (R35); steps 4 and 5 (R36, R37).
-/
namespace Sys2Proof.Machine

/-! ### One admission -/

theorem Work.mark_marks (me : StationNo) (c : Claim) (i : SlotNo) (cause : Cause) (w : Work) :
    (w.mark me c i cause).marks =
      if c.holder = me then put w.marks i (some cause) else w.marks := by
  unfold Work.mark
  by_cases own : c.holder = me <;> simp [own]

/-- What the admission of a claim does. -/
structure Work.Admits (me : StationNo) (now : CommitNo) (p : PoolNo) (i : SlotNo) (c : Claim)
    (w v : Work) : Prop where
  slots : v.slots = put w.slots i (some (c.admitted now))
  pools : v.pools = put w.pools p { w.pools[p] with
    granted := w.pools[p].granted + c.units, waiting := w.pools[p].waiting - 1 }
  touched : v.touched = w.touched
  mark : v.marks[i] = if c.holder = me then some .admitted else w.marks[i]
  marks : ∀ j : SlotNo, i ≠ j → v.marks[j] = w.marks[j]

theorem Work.admitClaim_admits (me : StationNo) (now : CommitNo) (p : PoolNo) (i : SlotNo) (c : Claim)
    (w : Work) : Work.Admits me now p i c w (w.admitClaim me now p i c) where
  slots := Work.admitClaim_slots me now p i c w
  pools := Work.mark_pools _ _ _ _ _
  touched := Work.mark_touched _ _ _ _ _
  mark := by
    unfold Work.admitClaim
    rw [Work.mark_marks]
    split
    · rw [getElem_put_same]
    · rfl
  marks j other := by
    unfold Work.admitClaim
    rw [Work.mark_marks]
    split
    · rw [getElem_put_other _ _ _ _ other]; rfl
    · rfl

/-! ### One pass -/

/-- The head of the wait line needs more than the pool's free units. -/
def Work.Blocked (now : CommitNo) (p : PoolNo) (w : Work) : Prop :=
  ∀ i c rest, waitLine now w.slots p = (i, c) :: rest →
    w.pools[p].capacity.toNat < w.pools[p].granted.toNat + c.units.toNat

/-- What a pass that admits the first `n` of the wait line does. -/
structure Work.Passed (me : StationNo) (now : CommitNo) (p : PoolNo) (n : Nat) (w v : Work) : Prop where
  bound : n ≤ (waitLine now w.slots p).length
  line : waitLine now v.slots p = (waitLine now w.slots p).drop n
  admitted : ∀ x ∈ (waitLine now w.slots p).take n,
    v.slots[x.1] = some (x.2.admitted now) ∧
    v.marks[x.1] = if x.2.holder = me then some .admitted else w.marks[x.1]
  others : ∀ i : SlotNo, (∀ x ∈ (waitLine now w.slots p).take n, x.1 ≠ i) →
    v.slots[i] = w.slots[i] ∧ v.marks[i] = w.marks[i]
  capacity : v.pools[p].capacity = w.pools[p].capacity
  due : v.pools[p].due = w.pools[p].due
  touched : v.touched = w.touched
  pools : ∀ q : PoolNo, q ≠ p → v.pools[q] = w.pools[q]
  granted : v.pools[p].granted.toNat = w.pools[p].granted.toNat +
    (((waitLine now w.slots p).take n).map fun x => x.2.units.toNat).sum
  waiting : v.pools[p].waiting = w.pools[p].waiting - n
  within : 0 < n → v.pools[p].granted.toNat ≤ v.pools[p].capacity.toNat

theorem Work.Passed.refl (me : StationNo) (now : CommitNo) (p : PoolNo) (w : Work) :
    Work.Passed me now p 0 w w where
  bound := Nat.zero_le _
  line := rfl
  admitted _ m := nomatch m
  others _ _ := ⟨rfl, rfl⟩
  capacity := rfl
  due := rfl
  touched := rfl
  pools _ _ := rfl
  granted := rfl
  waiting := rfl
  within none := absurd none (Nat.lt_irrefl 0)

section
variable {me : StationNo} {now : CommitNo} {p : PoolNo} {w u v : Work} {n : Nat}

/-- The head of the line admitted, and then `n` more. -/
theorem Work.Passed.cons (i : SlotNo) (c : Claim) (rest : List (SlotNo × Claim))
    (front : waitLine now w.slots p = (i, c) :: rest) (room : fits w.pools[p] c.units = true)
    (first : Work.Admits me now p i c w u) (more : Work.Passed me now p n u v) :
    Work.Passed me now p (n + 1) w v := by
  have remains : waitLine now u.slots p = rest := by
    rw [first.slots]; exact waitLine_put now w.slots p i c _ rest front rfl
  obtain ⟨sum, within⟩ := fits_granted w.pools[p] c.units room
  have different := waitLine_slots now w.slots p
  rw [front] at different
  have behind : ∀ x ∈ rest.take n, x.1 ≠ i := fun x m =>
    ((List.pairwise_cons.mp different).1 x (List.mem_of_mem_take m)).symm
  obtain ⟨bound, line, admitted, others, capacity, due, touched, pools, granted, waiting, most⟩ := more
  rw [remains] at bound line admitted others granted
  have record := first.pools
  constructor
  case bound => rw [front]; exact Nat.succ_le_succ bound
  case line => rw [line, front]; rfl
  case admitted =>
    rw [front, List.take_succ_cons]
    intro x m
    rcases List.mem_cons.mp m with rfl | m
    · obtain ⟨slot, mark⟩ := others i behind
      rw [slot, mark, first.slots, first.mark, getElem_put_same]
      exact ⟨rfl, rfl⟩
    · obtain ⟨slot, mark⟩ := admitted x m
      rw [first.marks _ (behind x m).symm] at mark
      exact ⟨slot, mark⟩
  case others =>
    rw [front, List.take_succ_cons]
    intro j apart
    have other : i ≠ j := apart (i, c) (List.mem_cons_self ..)
    obtain ⟨slot, mark⟩ := others j fun x m => apart x (List.mem_cons_of_mem _ m)
    rw [slot, mark, first.slots, first.marks j other, getElem_put_other _ _ _ _ other]
    exact ⟨rfl, rfl⟩
  case capacity => rw [capacity, record, getElem_put_same]
  case due => rw [due, record, getElem_put_same]
  case touched => rw [touched, first.touched]
  case pools =>
    intro q other
    rw [pools q other, record, getElem_put_other _ _ _ _ other.symm]
  case granted =>
    rw [granted, record, getElem_put_same, front, List.take_succ_cons, List.map_cons, List.sum_cons]
    dsimp only
    rw [sum, Nat.add_assoc]
  case waiting =>
    rw [waiting, record, getElem_put_same]
    dsimp only
    omega
  case within =>
    intro _
    rcases Nat.eq_zero_or_pos n with rfl | some
    · rw [capacity, granted, record, getElem_put_same]
      exact within
    · exact most some

/-- A pass with a round for each waiter admits a front part of the line and ends blocked. -/
theorem Work.pass_passed (me : StationNo) (now : CommitNo) (p : PoolNo) (fuel : Nat) (w : Work)
    (rounds : (waitLine now w.slots p).length ≤ fuel) :
    (w.pass me now p fuel).Blocked now p ∧ ∃ n, Work.Passed me now p n w (w.pass me now p fuel) := by
  induction fuel generalizing w with
  | zero =>
    have empty := List.length_eq_zero_iff.mp (Nat.le_zero.mp rounds)
    refine ⟨fun i c rest line => ?_, 0, .refl me now p w⟩
    rw [Work.pass, empty] at line; cases line
  | succ fuel ih =>
    unfold Work.pass
    split
    · rename_i empty
      refine ⟨fun i c rest line => ?_, 0, .refl me now p w⟩
      rw [empty] at line; cases line
    · rename_i i c rest front
      split
      · rename_i room
        have first := w.admitClaim_admits me now p i c
        have remains : waitLine now (w.admitClaim me now p i c).slots p = rest := by
          rw [first.slots]; exact waitLine_put now w.slots p i c _ rest front rfl
        obtain ⟨blocked, n, more⟩ := ih (w.admitClaim me now p i c) (by
          rw [remains]; rw [front] at rounds; exact Nat.le_of_succ_le_succ rounds)
        exact ⟨blocked, n + 1, more.cons i c rest front room first⟩
      · rename_i full
        refine ⟨fun j d rest' line => ?_, 0, .refl me now p w⟩
        rw [front] at line
        cases line
        simpa [fits] using full

/-- A slot without a waiter of the pool stays. -/
theorem Work.Passed.stays (h : Work.Passed me now p n w v) (i : SlotNo)
    (waits : ∀ c, w.slots[i] = some c → ¬ (c.pool = p ∧ c.state = .waiting)) :
    v.slots[i] = w.slots[i] ∧ v.marks[i] = w.marks[i] := by
  refine h.others i fun x m same => ?_
  obtain ⟨slot, mine⟩ := (mem_waitLine now w.slots p x.1 x.2).mp (List.mem_of_mem_take m)
  exact waits x.2 (same ▸ slot) mine

/-- The rest of the line stays. -/
theorem Work.Passed.rest (h : Work.Passed me now p n w v) (x : SlotNo × Claim)
    (m : x ∈ (waitLine now w.slots p).drop n) :
    v.slots[x.1] = some x.2 ∧ v.marks[x.1] = w.marks[x.1] := by
  have different := waitLine_slots now w.slots p
  rw [← List.take_append_drop n (waitLine now w.slots p), List.pairwise_append] at different
  obtain ⟨-, -, apart⟩ := different
  obtain ⟨slot, mark⟩ := h.others x.1 fun y front => apart y front x m
  obtain ⟨before, -⟩ := (mem_waitLine now w.slots p x.1 x.2).mp (List.mem_of_mem_drop m)
  exact ⟨slot.trans before, mark⟩

/-! ### What other pools see -/

/-- Two works agree on a pool: on its record, its claims and whether it is touched. -/
structure Work.SamePool (p : PoolNo) (w v : Work) : Prop where
  pool : v.pools[p] = w.pools[p]
  touched : v.touched[p] = w.touched[p]
  claims : ∀ (i : SlotNo) (c : Claim), c.pool = p → (w.slots[i] = some c ↔ v.slots[i] = some c)

theorem Work.SamePool.refl (p : PoolNo) (w : Work) : Work.SamePool p w w :=
  ⟨rfl, rfl, fun _ _ _ => Iff.rfl⟩

theorem Work.SamePool.trans (a : Work.SamePool p w u) (b : Work.SamePool p u v) :
    Work.SamePool p w v :=
  ⟨b.pool.trans a.pool, b.touched.trans a.touched, fun i c mine =>
    (a.claims i c mine).trans (b.claims i c mine)⟩

theorem Work.SamePool.blocked (h : Work.SamePool p w v) (b : w.Blocked now p) : v.Blocked now p := by
  intro i c rest line
  rw [waitLine_congr now w.slots v.slots p h.claims] at line
  rw [h.pool]
  exact b i c rest line

/-- A pass leaves the other pools. -/
theorem Work.pass_samePool (me : StationNo) (now : CommitNo) (p q : PoolNo) (other : q ≠ p) (w : Work) :
    Work.SamePool p w (w.pass me now q 64) := by
  refine Work.pass_keeps (P := Work.SamePool p w) me now q (fun v i c h slot pool _ _ => ?_) 64 w
    (.refl p w)
  have one := v.admitClaim_admits me now q i c
  refine h.trans ⟨?_, by rw [one.touched], fun j d mine => ?_⟩
  · rw [one.pools, getElem_put_other _ _ _ _ other]
  · rw [one.slots]
    by_cases same : i = j
    · subst same
      rw [getElem_put_same, slot]
      have before : c ≠ d := fun eq => other (pool.symm.trans (eq ▸ mine))
      have after : c.admitted now ≠ d := fun eq =>
        other (pool.symm.trans ((congrArg Claim.pool eq).trans mine))
      simp [before, after]
    · rw [getElem_put_other _ _ _ _ same]

/-- A replaced record leaves the other pools. -/
theorem Work.setPool_samePool (q : PoolNo) (f : Pool) (other : q ≠ p) (w : Work) :
    Work.SamePool p w (w.setPool q f) :=
  ⟨getElem_put_other _ _ _ _ other, rfl, fun _ _ _ => Iff.rfl⟩

/-- A fold over pools of which each step leaves the other pools is, for one pool, its own step. -/
theorem foldl_at (f : Work → PoolNo → Work) (p : PoolNo)
    (elsewhere : ∀ (q : PoolNo) (w : Work), q ≠ p → Work.SamePool p w (f w q)) (l : List PoolNo)
    (once : l.Nodup) (m : p ∈ l) (w : Work) :
    ∃ u, Work.SamePool p w u ∧ Work.SamePool p (f u p) (l.foldl f w) := by
  have apart : ∀ (l : List PoolNo) (w : Work), p ∉ l → Work.SamePool p w (l.foldl f w) := by
    intro l
    induction l with
    | nil => exact fun w _ => .refl p w
    | cons q l ih =>
      intro w out
      obtain ⟨other, out⟩ := not_or.mp (mt List.mem_cons.mpr out)
      exact (elsewhere q w (Ne.symm other)).trans (ih _ out)
  obtain ⟨front, back, rfl⟩ := List.append_of_mem m
  obtain ⟨-, tail, disjoint⟩ := List.nodup_append.mp once
  have notFront : p ∉ front := fun inFront => disjoint p inFront p (List.mem_cons_self ..) rfl
  refine ⟨front.foldl f w, apart front w notFront, ?_⟩
  rw [List.foldl_append, List.foldl_cons]
  exact apart back _ (List.nodup_cons.mp tail).1

theorem upTo_nodup (n : Nat) : (upTo n).Nodup :=
  List.nodup_ofFn.mpr Function.injective_id

/-! ### Steps 4 and 5 (R36, R37) -/

theorem Work.admissionFor_samePool (me : StationNo) (now : CommitNo) (after : Bool) (q : PoolNo)
    (w : Work) (other : q ≠ p) : Work.SamePool p w (w.admissionFor me now after q) := by
  unfold Work.admissionFor
  split
  · split
    · exact w.setPool_samePool q _ other
    · exact w.pass_samePool me now p q other
  · exact .refl p w

theorem Work.owedFor_samePool (me : StationNo) (now : CommitNo) (q : PoolNo)
    (w : Work) (other : q ≠ p) : Work.SamePool p w (w.owedFor me now q) := by
  unfold Work.owedFor
  split
  · exact (w.pass_samePool me now p q other).trans (Work.setPool_samePool q _ other _)
  · exact .refl p w

end

/-- A pass of any pool ends blocked and leaves its flag. -/
theorem Work.pass_blocked (me : StationNo) (now : CommitNo) (p : PoolNo) (w : Work) :
    (w.pass me now p 64).Blocked now p ∧ (w.pass me now p 64).pools[p].due = w.pools[p].due ∧
      (w.pass me now p 64).touched = w.touched := by
  obtain ⟨blocked, n, passed⟩ := w.pass_passed me now p 64 (length_waitLine_le now w.slots p)
  exact ⟨blocked, passed.due, passed.touched⟩

/-- What step 4 without freeze-after leaves of a pool. -/
structure Work.StepFour (now : CommitNo) (p : PoolNo) (w v : Work) : Prop where
  blocked : w.touched[p] = true → v.Blocked now p
  due : v.pools[p].due = w.pools[p].due
  same : w.touched[p] = false → Work.SamePool p w v

theorem Work.stepFour (me : StationNo) (now : CommitNo) (p : PoolNo) (w : Work) :
    Work.StepFour now p w ((upTo 8).foldl (fun v q => v.admissionFor me now false q) w) := by
  obtain ⟨u, before, after⟩ := foldl_at (fun v q => v.admissionFor me now false q) p
    (fun q w other => w.admissionFor_samePool me now false q other) (upTo 8) (upTo_nodup 8)
    (mem_upTo p) w
  obtain ⟨blocked, due, -⟩ := u.pass_blocked me now p
  by_cases touched : w.touched[p] = true
  · have own : u.admissionFor me now false p = u.pass me now p 64 := by
      simp only [Work.admissionFor, before.touched, touched, if_true, Bool.false_eq_true, if_false]
    rw [own] at after
    exact ⟨fun _ => after.blocked blocked, by rw [after.pool, due, before.pool],
      fun no => absurd (touched.symm.trans no) (by decide)⟩
  · have own : u.admissionFor me now false p = u := by
      simp only [Work.admissionFor, before.touched, touched, Bool.false_eq_true, if_false]
    rw [own] at after
    have same := before.trans after
    exact ⟨fun yes => absurd yes touched, by rw [same.pool], fun _ => same⟩

/-- What step 5 leaves of a pool. -/
structure Work.StepFive (now : CommitNo) (p : PoolNo) (w v : Work) : Prop where
  blocked : w.pools[p].due = true → v.Blocked now p
  due : v.pools[p].due = false
  same : w.pools[p].due = false → Work.SamePool p w v

theorem Work.stepFive (me : StationNo) (now : CommitNo) (p : PoolNo) (w : Work) :
    Work.StepFive now p w ((upTo 8).foldl (fun v q => v.owedFor me now q) w) := by
  obtain ⟨u, before, after⟩ := foldl_at (fun v q => v.owedFor me now q) p
    (fun q w other => w.owedFor_samePool me now q other) (upTo 8) (upTo_nodup 8) (mem_upTo p) w
  by_cases owed : w.pools[p].due = true
  · have own : u.owedFor me now p = (u.pass me now p 64).setPool p
        { (u.pass me now p 64).pools[p] with due := false } := by
      simp only [Work.owedFor, before.pool, owed, if_true]
    rw [own] at after
    have cleared : ((u.pass me now p 64).setPool p
        { (u.pass me now p 64).pools[p] with due := false }).Blocked now p := by
      intro i c rest line
      unfold Work.setPool
      dsimp only
      rw [getElem_put_same]
      exact (u.pass_blocked me now p).1 i c rest line
    refine ⟨fun _ => after.blocked cleared, ?_, fun no => absurd (owed.symm.trans no) (by decide)⟩
    rw [after.pool]
    unfold Work.setPool
    dsimp only
    rw [getElem_put_same]
  · have own : u.owedFor me now p = u := by
      simp only [Work.owedFor, before.pool, owed, Bool.false_eq_true, if_false]
    rw [own] at after
    have same := before.trans after
    exact ⟨fun yes => absurd yes owed, by rw [same.pool]; simpa using owed, fun _ => same⟩

/-- Step 4 under freeze-after sets the flag of the pools touched and changes nothing else (R36). -/
structure Work.Frozen (l : List PoolNo) (w v : Work) : Prop where
  slots : v.slots = w.slots
  marks : v.marks = w.marks
  touched : v.touched = w.touched
  pools : ∀ p : PoolNo, v.pools[p] =
    if p ∈ l ∧ w.touched[p] = true then { w.pools[p] with due := true } else w.pools[p]

theorem Work.frozen (me : StationNo) (now : CommitNo) (l : List PoolNo) (w : Work) :
    Work.Frozen l w (l.foldl (fun v q => v.admissionFor me now true q) w) := by
  induction l generalizing w with
  | nil => exact ⟨rfl, rfl, rfl, fun p => by simp⟩
  | cons q l ih =>
    rw [List.foldl_cons]
    by_cases touched : w.touched[q] = true
    · have own : w.admissionFor me now true q = w.setPool q { w.pools[q] with due := true } := by
        simp only [Work.admissionFor, touched, if_true]
      rw [own]
      obtain ⟨slots, marks, same, pools⟩ := ih (w.setPool q { w.pools[q] with due := true })
      refine ⟨slots, marks, same, fun p => ?_⟩
      rw [pools p]
      unfold Work.setPool
      dsimp only
      by_cases eq : q = p
      · subst eq
        rw [getElem_put_same, if_pos (c := q ∈ q :: l ∧ _) ⟨List.mem_cons_self .., touched⟩]
        split <;> rfl
      · rw [getElem_put_other _ _ _ _ eq]
        simp only [List.mem_cons, Ne.symm eq, false_or]
    · have own : w.admissionFor me now true q = w := by
        simp only [Work.admissionFor, touched, Bool.false_eq_true, if_false]
      rw [own]
      obtain ⟨slots, marks, same, pools⟩ := ih w
      refine ⟨slots, marks, same, fun p => ?_⟩
      rw [pools p]
      by_cases eq : p = q
      · subst eq; rw [if_neg fun h => touched h.2, if_neg fun h => touched h.2]
      · simp only [List.mem_cons, eq, false_or]

/-- What steps 4 and 5 without freeze-after leave of a pool (R35, R37). -/
structure Work.Admitted (now : CommitNo) (ended : Bool) (p : PoolNo) (w v : Work) : Prop where
  blocked : w.touched[p] = true ∨ ended = true ∧ w.pools[p].due = true → v.Blocked now p
  due : v.pools[p].due = (!ended && w.pools[p].due)
  same : w.touched[p] = false → (ended = true → w.pools[p].due = false) → Work.SamePool p w v

theorem Work.admission_admitted (me : StationNo) (now : CommitNo) (ended : Bool) (p : PoolNo)
    (w : Work) : Work.Admitted now ended p w (w.admission me now false ended) := by
  have four := w.stepFour me now p
  have five := Work.stepFive me now p ((upTo 8).foldl (fun v q => v.admissionFor me now false q) w)
  unfold Work.admission
  generalize (upTo 8).foldl (fun v q => v.admissionFor me now false q) w = u at four five
  dsimp only
  cases ended with
  | false =>
    exact ⟨fun h => four.blocked (h.resolve_right (by simp)), by simpa using four.due,
      fun no _ => four.same no⟩
  | true =>
    refine ⟨fun h => ?_, by simpa using five.due, fun no owed =>
      (four.same no).trans (five.same (four.due.trans (owed rfl)))⟩
    by_cases owed : w.pools[p].due = true
    · exact five.blocked (four.due.trans owed)
    · have touched := h.resolve_right fun both => owed both.2
      exact (five.same (four.due.trans (by simpa using owed))).blocked (four.blocked touched)

/-- Settles O44: a pass is a chain of admissions of the head of the line, and in steps 4 and 5 the pools do
not touch one another. -/
theorem admissionPassFollowsTheWaitLine : Obligations.AdmissionPassFollowsTheWaitLine := by
  refine ⟨fun now slots p => ⟨mem_waitLine now slots p, waitLine_nodup now slots p, ?_⟩,
    fun me now p w => ?_, fun me now w => ?_, fun me now ended w => ?_⟩
  · refine (waitLine_pairwise now slots p).imp fun {x y} ahead => ?_
    simp only [Fin.lt_def, Fin.ext_iff, BitVec.toNat_eq]
    exact (waitsAhead_iff now x y).mp ahead
  · obtain ⟨blocked, n, passed⟩ := w.pass_passed me now p 64 (length_waitLine_le now w.slots p)
    refine ⟨passed.capacity, passed.due, passed.touched, passed.pools, fun i free => ?_,
      fun i c slot other => ?_, blocked, n, passed.bound, passed.admitted, passed.rest,
      passed.granted, passed.waiting, passed.within⟩
    · rw [← free]
      exact passed.stays i fun c slot => by rw [free] at slot; cases slot
    · rw [← slot]
      refine passed.stays i fun d same waits => ?_
      rw [slot] at same
      cases same
      rcases other with pool | held
      · exact pool waits.1
      · rw [held] at waits; cases waits.2
  · obtain ⟨slots, marks, -, pools⟩ := Work.frozen me now (upTo 8) w
    refine ⟨slots, marks, fun p => ?_⟩
    have record := pools p
    simp only [mem_upTo, true_and] at record
    exact record
  · have steps := fun p => w.admission_admitted me now ended p
    refine ⟨fun p => (steps p).blocked, fun p => (steps p).due, fun p no owed => ?_⟩
    have same := (steps p).same no owed
    exact ⟨same.pool, fun i c slot mine => (same.claims i c mine).mp slot⟩

end Sys2Proof.Machine
end

section
/-!
PROOFS. Membership in order after every step: a station that is no member holds nothing of the group, and
members and stations on the bus are LOCKED and in step (R25, R29, R57 to R59, R80, R104, R117).
-/
namespace Sys2Proof.Machine

/-! ### Membership in order -/

/-- The bus unit takes part in the share bus. -/
def BusUnit.running (b : BusUnit) : Prop := b.locked = true ∧ b.inStep = true

/-- A window, a record in transfer or MRS asserted stands only while the bus unit takes part. -/
structure BusUnit.LinesInStep (b : BusUnit) : Prop where
  window : b.window ≠ none → b.running
  transfer : b.inTransfer ≠ none → b.running
  mrs : b.mrsDrive = true → b.running

/-- While it takes part it may show anything. -/
theorem BusUnit.running.lines {b : BusUnit} (h : b.running) : b.LinesInStep :=
  ⟨fun _ => h, fun _ => h, fun _ => h⟩

/-- Both properties of O60 together. -/
structure State.InOrder (s : State) : Prop where
  outsider : s.outsiderHoldsNothing
  member : s.control.member = true → s.bus.running
  lines : s.bus.LinesInStep

theorem State.inOrder_iff (s : State) : s.InOrder ↔ s.outsiderHoldsNothing ∧ s.takesPartInStep :=
  ⟨fun h => ⟨h.outsider, h.member, h.lines.window, h.lines.transfer, h.lines.mrs⟩,
    fun ⟨outsider, member, window, transfer, mrs⟩ => ⟨outsider, member, window, transfer, mrs⟩⟩

/-- A member that takes part is in order. -/
theorem State.InOrder.of_member {s : State} (member : s.control.member = true)
    (running : s.bus.running) : s.InOrder where
  outsider none := by rw [member] at none; cases none
  member _ := running
  lines := running.lines

/-- The entry into OUTSIDE leaves a station in order (R117). -/
theorem State.enterOutside_inOrder {s : State} (h : s.bus.LinesInStep) (cause : ExitCause)
    (last : Nat → LastCmd) : (s.enterOutside cause last).InOrder := by
  refine ⟨fun _ => ?_, fun member => ?_, ?_⟩
  · rw [State.enterOutside_bus, State.enterOutside_engine, State.enterOutside_control,
      State.enterOutside_request_cursor]
    refine ⟨?_, rfl, rfl, rfl, rfl, rfl, rfl, rfl, rfl⟩
    show s.bus.window.map _ = none ∨ s.bus.window.map _ = some Drive.idle
    cases s.bus.window
    · exact .inl rfl
    · exact .inr rfl
  · rw [State.enterOutside_control] at member; cases member
  · rw [State.enterOutside_bus]
    refine ⟨fun w => h.window fun none => w ?_, fun t => h.transfer fun none => t ?_,
      fun mrs => nomatch mrs⟩
    · show s.bus.window.map _ = _
      rw [none]; rfl
    · show s.bus.inTransfer.map _ = _
      rw [none]; rfl

namespace State.InOrder
variable {s t : State}

/-- Whatever changes outside bus unit, station controller, cursor and the replica's currency. -/
theorem congr (h : s.InOrder) (bus : t.bus = s.bus) (control : t.control = s.control)
    (cursor : t.request.cursor = s.request.cursor) (current : t.engine.current = s.engine.current)
    (history : t.engine.historyRunning = s.engine.historyRunning) : t.InOrder := by
  obtain ⟨outsider, member, lines⟩ := h
  unfold State.outsiderHoldsNothing at outsider
  refine ⟨?_, ?_, ?_⟩
  · unfold State.outsiderHoldsNothing
    rwa [bus, control, cursor, current, history]
  · rwa [bus, control]
  · rwa [bus]

/-- Whatever changes in the bus unit alone and leaves what the station holds of the group. -/
theorem setBus (h : s.InOrder) (b : BusUnit)
    (window : s.control.member = false → b.window = none ∨ b.window = some .idle)
    (queue : b.applyQueue = s.bus.applyQueue) (roster : b.roster = s.bus.roster)
    (list : b.syncList = s.bus.syncList) (tracker : b.tracker = s.bus.tracker)
    (member : s.control.member = true → b.running) (lines : b.LinesInStep) :
    ({ s with bus := b } : State).InOrder := by
  refine ⟨fun out => ?_, member, lines⟩
  obtain ⟨-, rest⟩ := h.outsider out
  rw [← queue, ← roster, ← list, ← tracker] at rest
  exact ⟨window out, rest⟩

/-- The window of a station that is no member. -/
theorem window (h : s.InOrder) (out : s.control.member = false) :
    s.bus.window = none ∨ s.bus.window = some .idle := (h.outsider out).1

theorem setEvent (h : s.InOrder) (e : Event) : (s.setEvent e).InOrder := h.congr rfl rfl rfl rfl rfl

theorem choose (h : s.InOrder) : s.choose.InOrder :=
  h.congr (by simp) (by simp) (by simp) (by simp) (by simp)

theorem endOwn (h : s.InOrder) (outcome : Outcome) : (s.endOwn outcome).InOrder :=
  h.congr (by simp) (by simp) (by simp) (by simp) (by simp)

theorem clearOwn (h : s.InOrder) : s.clearOwn.InOrder := h.congr rfl rfl rfl rfl rfl

/-- A member that enters LEAVING stays a member (R109, R114). -/
theorem enterLeaving (h : s.InOrder) (reason : LeaveReason) (member : s.control.member = true) :
    (s.enterLeaving reason).InOrder :=
  .of_member (by rw [State.enterLeaving_control]; rfl)
    (by rw [State.enterLeaving_bus]; exact h.member member)

theorem abortOwn (h : s.InOrder) (fault : Bool) : (s.abortOwn fault).InOrder := by
  have outside : ∀ cause, (s.clearOwn.enterOutside cause exitLastCmd).InOrder := fun cause =>
    State.enterOutside_inOrder (s := s.clearOwn) h.lines cause _
  unfold State.abortOwn
  split
  · dsimp only
    split
    · split
      · exact h.congr (by simp) (by simp) (by simp) (by simp) (by simp)
      · exact h.congr rfl rfl rfl rfl rfl
    · split
      · split
        · exact outside _
        · split
          · exact outside _
          · exact h.congr rfl rfl rfl rfl rfl
      · exact h.clearOwn
    · split
      · split
        · exact outside _
        · exact h.congr rfl rfl rfl rfl rfl
      · exact h.clearOwn
    · exact h.clearOwn
  · exact h

/-! ### The host port (R107 to R110, R179) -/

theorem selectView_currency (value : Byte) (s : State) :
    (s.selectView value).engine.current = s.engine.current ∧
      (s.selectView value).engine.historyRunning = s.engine.historyRunning := by
  unfold State.selectView; split <;> exact ⟨rfl, rfl⟩

theorem findGo_currency (s : State) : s.findGo.engine.current = s.engine.current ∧
    s.findGo.engine.historyRunning = s.engine.historyRunning := by
  unfold State.findGo
  split
  · exact ⟨rfl, rfl⟩
  · dsimp only; split <;> exact ⟨rfl, rfl⟩

theorem commandStart (h : s.InOrder) : s.commandStart.InOrder := by
  unfold State.commandStart
  split
  · rename_i accepted
    have out : s.control.member = false := by
      simp only [State.startAccepted, Bool.and_eq_true, Bool.or_eq_true, beq_iff_eq] at accepted
      rcases accepted with ⟨station | station, -⟩ <;> simp [Controller.member, station]
    have holds := h.outsider out
    apply State.InOrder.choose
    exact ⟨fun _ => holds, fun member => (nomatch member), h.lines⟩
  · exact h.congr rfl rfl rfl rfl rfl

theorem commandLeave (h : s.InOrder) : s.commandLeave.InOrder := by
  have accepted : (s.setLastCmd ⟨.leave, true, 0⟩).InOrder := h.congr rfl rfl rfl rfl rfl
  unfold State.commandLeave
  split
  · rename_i station
    exact accepted.enterLeaving _ (by simp [Controller.member, station])
  · rename_i station
    exact accepted.enterLeaving _ (by simp [Controller.member, station])
  · split
    · exact ⟨h.outsider, h.member, h.lines⟩
    · exact State.enterOutside_inOrder h.lines _ _
  all_goals exact h.congr rfl rfl rfl rfl rfl

/-- The soft reset leaves the lock, and nothing on the bus (R110). -/
theorem softReset (s : State) : s.softReset.InOrder where
  outsider _ := ⟨.inl rfl, rfl, rfl, rfl, rfl, rfl, rfl, rfl, rfl⟩
  member none := nomatch none
  lines := ⟨fun w => absurd rfl w, fun t => absurd rfl t, fun m => nomatch m⟩

theorem writeEffect (h : s.InOrder) (a : Addr) (value : Byte) : (s.writeEffect a value).InOrder := by
  unfold State.writeEffect
  split
  case h_3 =>
    unfold State.command
    split
    · exact h.commandStart
    · split
      · exact h.commandLeave
      · split
        · exact h.congr (by simp) (by simp) (by simp) (by simp) (by simp)
        · split
          · exact softReset s
          · exact h.congr rfl rfl rfl rfl rfl
  case h_9 =>
    obtain ⟨current, history⟩ := selectView_currency value s
    exact h.congr (by simp) (by simp) (by simp) current history
  case h_15 =>
    obtain ⟨current, history⟩ := findGo_currency s
    exact h.congr (by simp) (by simp) (by simp) current history
  all_goals exact h.congr (by simp) (by simp) (by simp) (by simp) (by simp)

theorem write (h : s.InOrder) (a : Addr) (value : Byte) : (s.write a value).InOrder := by
  have reached : (s.reach false a).InOrder := h.congr (by simp) (by simp) (by simp) (by simp) (by simp)
  exact (reached.writeEffect a value).congr rfl rfl rfl rfl rfl

/-- Reads leave the bus unit, the station controller, the cursor and the currency. -/
theorem read (h : s.InOrder) (a : Addr) : (s.read a).InOrder := by
  have ports : ∀ (a : Addr) (g : HostPort), ({ s.reach true a with host := g } : State).InOrder :=
    fun a g => h.congr (State.reach_bus true a s) (State.reach_control true a s)
      (congrArg RequestUnit.cursor (State.reach_request true a s))
      (congrArg Engine.current (State.reach_engine true a s))
      (congrArg Engine.historyRunning (State.reach_engine true a s))
  unfold State.read
  split
  case h_3 =>
    unfold State.readCompletion
    extract_lets r p
    have taken : (if p.latch.isSome && decide (9 ≤ p.pointer) then r.takeCompletion
        else { r with host := { r.host with compRead := some ⟨p.latch, p.pointer + 1⟩ } }).InOrder := by
      split
      · unfold State.takeCompletion
        apply State.InOrder.choose
        exact (ports _ { r.host with compRead := none }).congr rfl rfl rfl rfl rfl
      · exact ports _ _
    exact taken.congr rfl rfl rfl rfl rfl
  case h_4 => exact (ports 0x14#7 s.host).congr rfl rfl rfl rfl rfl
  case h_8 =>
    split
    · exact (ports (commitAddr (a.extractLsb' 0 3)) s.host).congr rfl rfl rfl rfl rfl
    · exact (ports a s.host).congr rfl rfl rfl rfl rfl
  · exact (ports (eventsAddr false) s.host).congr rfl rfl rfl rfl rfl
  · exact (ports (eventsAddr true) s.host).congr rfl rfl rfl rfl rfl
  · exact (ports 0x16#7 s.host).congr rfl rfl rfl rfl rfl
  · exact (ports 0x1D#7 s.host).congr rfl rfl rfl rfl rfl
  · exact (ports 0x1E#7 s.host).congr rfl rfl rfl rfl rfl

theorem spiByte (h : s.InOrder) (value : Byte) : (s.spiByte value).InOrder := by
  unfold State.spiByte
  split
  · split
    · exact h.congr rfl rfl rfl rfl rfl
    · split
      · exact h.read _
      · exact h.write _ _
  · exact h

/-! ### Engine turns (R52) -/

/-- Only a member has entries to apply, and an application leaves it a member (R25). -/
theorem application (h : s.InOrder) : s.application.InOrder := by
  rcases member : s.control.member with _ | _
  · obtain ⟨-, queue, -⟩ := h.outsider member
    rw [State.application_empty s queue]; exact h
  · refine .of_member (by rwa [State.application_control]) ?_
    rw [State.application_bus]
    exact h.member member

theorem beforeWin (h : s.InOrder) : s.beforeWin.InOrder :=
  State.beforeWin_keeps State.InOrder (fun _ => application) s h

/-- Only an ACTIVE station builds (R125). -/
theorem build (h : s.InOrder) : s.build.InOrder := by
  unfold State.build
  split
  · rename_i wanted
    have active : s.control.station = .active := by
      simp only [State.buildWanted, Bool.and_eq_true, beq_iff_eq] at wanted
      obtain ⟨⟨⟨⟨-, station⟩, -⟩, -⟩, -⟩ := wanted
      exact station
    have member : s.control.member = true := by simp [Controller.member, active]
    split
    · exact .of_member member (h.member member)
    · exact h
  · exact h

theorem copyView (h : s.InOrder) : s.copyView.InOrder := by
  unfold State.copyView
  split
  · split
    · exact h.congr rfl rfl rfl rfl rfl
    · exact h
  · exact h

theorem findStep (h : s.InOrder) : s.findStep.InOrder := by
  have ended : ∀ code scan commit, (s.endScan code scan commit).InOrder := fun _ _ _ =>
    h.congr rfl rfl rfl rfl rfl
  unfold State.findStep
  split
  · split
    · split
      · unfold State.scanSlot
        extract_lets found commit stepped
        split
        · exact ended _ _ _
        · split
          · exact ended _ _ _
          · exact h.congr rfl rfl rfl rfl rfl
      · exact ended _ _ _
    · exact h
  · exact h

/-! ### Arbitration, transfers and restart episodes (R61 to R83) -/

/-- A running bus unit may change its lines, its window at a member alone. -/
theorem setLines (h : s.InOrder) (b : BusUnit) (running : b.running)
    (window : s.control.member = false → b.window = none ∨ b.window = some .idle)
    (queue : b.applyQueue = s.bus.applyQueue) (roster : b.roster = s.bus.roster)
    (list : b.syncList = s.bus.syncList) (tracker : b.tracker = s.bus.tracker) :
    ({ s with bus := b } : State).InOrder :=
  h.setBus b window queue roster list tracker (fun _ => running) running.lines

theorem assertMrs (h : s.InOrder) (running : s.bus.running) : s.assertMrs.InOrder := by
  rw [State.assertMrs_eq]
  exact h.setLines _ running h.window rfl rfl rfl rfl

theorem violated (h : s.InOrder) (running : s.bus.running) : s.violated.InOrder := by
  rw [State.violated_eq]
  exact h.setLines _ running h.window rfl rfl rfl rfl

theorem startTransfer (h : s.InOrder) (running : s.bus.running) (winner : StationNo) (own : Bool)
    (received : List Nibble) : (s.startTransfer winner own received).InOrder :=
  h.setLines _ running h.window rfl rfl rfl rfl

theorem recordStarts (h : s.InOrder) (running : s.bus.running) (winner : StationNo) (own : Bool)
    (started : Option (List Nibble)) : (s.recordStarts winner own started).InOrder := by
  unfold State.recordStarts
  extract_lets after
  have started : after.InOrder ∧ after.bus.running := by
    unfold after
    split
    · exact ⟨h, running⟩
    · exact ⟨h.startTransfer running _ _ _, running⟩
  obtain ⟨order, runs⟩ := started
  split
  · exact order.violated runs
  · exact order

theorem round (h : s.InOrder) (req : BitVec 8) (thr : Bool) (started : Option (List Nibble)) :
    (s.round req thr started).InOrder := by
  unfold State.round
  split
  · rename_i free
    simp only [Bool.and_eq_true] at free
    obtain ⟨running, -⟩ := free
    split
    · exact h
    · split
      · have won : s.beforeWin.win.InOrder ∧ s.beforeWin.win.bus.running := by
          have bus : s.beforeWin.win.bus = s.beforeWin.bus := by unfold State.win; split <;> rfl
          refine ⟨h.beforeWin.congr bus ?_ ?_ ?_ ?_, ?_⟩
          · unfold State.win; split <;> rfl
          · unfold State.win; split <;> rfl
          · unfold State.win; split <;> rfl
          · unfold State.win; split <;> rfl
          · rw [bus, State.beforeWin_bus]; exact running
        exact won.1.recordStarts won.2 _ _ _
      · exact h.recordStarts running _ _ _
  · exact h

theorem strayStart (h : s.InOrder) (started : List Nibble) : (s.strayStart started).InOrder := by
  unfold State.strayStart
  split
  · rename_i free
    simp only [Bool.and_eq_true] at free
    obtain ⟨running, -⟩ := free
    dsimp only
    have turned : ({ s with bus := { s.bus with turn := startStation started s.bus.turn } } :
        State).InOrder := h.setLines _ running h.window rfl rfl rfl rfl
    have begun := h.startTransfer running (startStation started s.bus.turn) false started
    split
    · split
      · exact turned.assertMrs running
      · exact turned
    · split
      · exact begun.violated running
      · exact begun
  · exact h

/-- A station that is no member drives nothing in the window that opens (R70). -/
theorem openWindow (h : s.InOrder) (running : s.bus.running) : s.openWindow.InOrder := by
  unfold State.openWindow
  split
  · refine h.setLines _ running (fun out => .inr ?_) rfl rfl rfl rfl
    rw [driveFor_of_not_member s _ out]
  · exact h

theorem endTransfer (h : s.InOrder) (rest : List Nibble) (mrs : Bool) :
    (s.endTransfer rest mrs).InOrder := by
  unfold State.endTransfer
  split
  · exact h
  · split
    · rename_i locked
      have running : s.bus.running := by simpa [BusUnit.running] using locked
      extract_lets nibbles turn _ off fits barred
      have order : off.InOrder := h.setLines _ running h.window rfl rfl rfl rfl
      split
      · exact order.assertMrs running
      · split
        · exact State.InOrder.openWindow
            (order.setLines _ running h.window rfl rfl rfl rfl) running
        · split
          · exact (order.abortOwn true).choose
          · exact order
    · exact h

theorem strayAck (h : s.InOrder) : s.strayAck.InOrder := by
  unfold State.strayAck
  split
  · rename_i detects
    simp only [State.detects, Bool.and_eq_true] at detects
    obtain ⟨⟨running, -⟩, -⟩ := detects
    exact h.assertMrs running
  · exact h

theorem restartBegin (h : s.InOrder) : s.restartBegin.InOrder := by
  unfold State.restartBegin
  split
  · have cleared : ({ s with bus := { s.bus with
        openList := [], inTransfer := none, window := none, restart := true } } : State).InOrder :=
      h.setBus _ (fun _ => .inl rfl) rfl rfl rfl rfl h.member
        ⟨fun w => absurd rfl w, fun t => absurd rfl t, h.lines.mrs⟩
    exact (cleared.abortOwn false).choose
  · exact h

theorem restartEnd (h : s.InOrder) : s.restartEnd.InOrder := by
  unfold State.restartEnd
  split
  · rename_i locked
    simp only [Bool.and_eq_true] at locked
    apply State.InOrder.setEvent
    exact h.setLines _ ⟨locked.1, rfl⟩ h.window rfl rfl rfl rfl
  · exact h

/-! ### Pins, lock and the timer (R57 to R60, R114) -/

/-- A bus unit that is not LOCKED carries nothing into the lock. -/
theorem lockGain (h : s.InOrder) : (effectOf .lockGain s).InOrder := by
  show State.InOrder (if s.bus.locked then s else _)
  split
  · exact h
  · rename_i unlocked
    have out : ¬ s.bus.running := fun running => unlocked running.1
    apply State.InOrder.setEvent
    exact h.setBus _ (fun _ => .inl rfl) rfl rfl rfl rfl (fun member => absurd (h.member member) out)
      ⟨fun w => absurd rfl w, fun t => absurd rfl t, fun mrs => absurd (h.lines.mrs mrs) out⟩

theorem lockLoss (h : s.InOrder) : (effectOf .lockLoss s).InOrder := by
  show State.InOrder (if s.bus.locked then _ else s)
  split
  · have lines : s.bus.loseLock.LinesInStep :=
      ⟨fun w => absurd rfl w, fun t => absurd rfl t, fun m => nomatch m⟩
    apply State.InOrder.endOwn
    split
    · exact State.enterOutside_inOrder (s := State.setEvent .lock { s with bus := s.bus.loseLock })
        lines _ _
    · rename_i stays
      simp only [Bool.or_eq_true, not_or, Bool.not_eq_true] at stays
      apply State.InOrder.setEvent
      exact h.setBus _ (fun _ => .inl rfl) rfl rfl rfl rfl
        (fun member => by rw [stays.1] at member; cases member) lines
  · exact h

theorem quietBus (h : s.InOrder) : (effectOf .quietBus s).InOrder := by
  show State.InOrder (if s.bus.locked && !s.bus.inStep then _ else s)
  split
  · rename_i locked
    simp only [Bool.and_eq_true] at locked
    exact h.setLines _ ⟨locked.1, rfl⟩ (fun _ => .inl rfl) rfl rfl rfl rfl
  · exact h

theorem syncTimerExpiry (h : s.InOrder) : (effectOf .syncTimerExpiry s).InOrder := by
  unfold effectOf exec execSyncTimerExpiry
  dsimp only
  split
  · split
    · rename_i syncing
      exact h.enterLeaving _ (by simp [Controller.member, syncing])
    · exact h
  · exact h

/-! ### The close of a window (R69 to R78, R111) -/

/-- A member stays a member at a snapshot record addressed to it (R113, R114). -/
theorem phaseAt_member (r : Record) (number : CommitNo) (isVoid : Bool)
    (member : s.control.member = true) : (s.phaseAt r number isVoid).control.member = true := by
  unfold State.phaseAt
  split
  · exact member
  · split
    · exact member
    · split
      · rfl
      · exact member
    · exact member

/-- A member that commits stays in order: it leaves, or stays a member (R74). -/
theorem commitMember (h : s.InOrder) (member : s.control.member = true) (r : Record) (own : Bool)
    (ack : BitVec 8) : (s.commitMember r own ack).InOrder := by
  have running := h.member member
  unfold State.commitMember
  extract_lets c entry src numbered ended installs moved phased told donating frozen
  have arrived : ended.bus.running := ⟨by simpa [ended, numbered] using running.1,
    by simpa [ended, numbered] using running.2⟩
  split
  · refine State.enterOutside_inOrder (BusUnit.running.lines ?_) _ _
    split
    · rwa [State.ownCommitted_bus]
    · exact arrived
  · have timer : moved.control.member = true := by
      show (s.control.timerAt r).member = true
      unfold Controller.timerAt
      split <;> exact member
    have phase : phased.control.member = true :=
      phaseAt_member r c.number c.isVoid (by rwa [State.arrive_control])
    have runs : phased.bus.running := ⟨by simpa [phased, moved] using running.1,
      by simpa [phased, moved] using running.2⟩
    have control : frozen.control = phased.control := by
      unfold frozen donating told
      split <;> split <;> simp
    have bus : frozen.bus = phased.bus := by
      unfold frozen donating told
      split <;> split <;> simp
    refine .of_member ?_ ?_
    · rwa [State.setEventIf_control, State.setEventIf_control, control]
    · rwa [State.setEventIf_bus, State.setEventIf_bus, bus]

/-- A JOIN that commits makes its sender a member (R111). -/
theorem commitJoin (running : s.bus.running) (ack : BitVec 8) : (s.commitJoin ack).InOrder := by
  refine .of_member ?_ ⟨by simpa using running.1, by simpa using running.2⟩
  unfold State.commitJoin
  extract_lets founding arrived _ _ entered
  split
  · rw [State.enterLeaving_control]; rfl
  · unfold entered
    split <;> rfl

theorem closeAs (h : s.InOrder) (running : s.bus.running) (drive : Drive) (o : OpenRecord)
    (ack : BitVec 8) (flt : Bool) (acknowledged : ∀ r, drive = .ack r → s.control.member = true) :
    (s.closeAs drive o ack flt).InOrder := by
  unfold State.closeAs
  split
  · split
    · exact h.abortOwn _
    · exact h
  · rename_i r
    split
    · have out := State.enterOutside_inOrder running.lines .dropped exitLastCmd
      unfold State.selfDrop
      dsimp only
      split
      · exact out.endOwn _
      · exact out
    · split
      · split
        · exact h.abortOwn _
        · exact h
      · exact h.commitMember (acknowledged r rfl) _ _ _
  · split
    · exact h
    · split
      · exact h.abortOwn _
      · split
        · exact commitJoin running _
        · exact h.endOwn _

/-- The close of a window leaves the lock and the step. -/
theorem closeAs_running (running : s.bus.running) (drive : Drive) (o : OpenRecord)
    (ack : BitVec 8) (flt : Bool) : (s.closeAs drive o ack flt).bus.running := by
  have aborted : ∀ fault, (s.abortOwn fault).bus.running := fun fault => by
    rcases s.abortOwn_bus fault with same | ⟨exit, -⟩
    · rwa [same]
    · rw [exit]; exact running
  unfold State.closeAs
  split
  · split
    · exact aborted _
    · exact running
  · split
    · exact ⟨by simpa using running.1, by simpa using running.2⟩
    · split
      · split
        · exact aborted _
        · exact running
      · exact ⟨by simpa using running.1, by simpa using running.2⟩
  · split
    · exact running
    · split
      · exact aborted _
      · split
        · exact ⟨by simpa using running.1, by simpa using running.2⟩
        · rwa [State.endOwn_bus]

theorem closeWindow (h : s.InOrder) (ack : BitVec 8) (flt : Bool) :
    (s.closeWindow ack flt).InOrder := by
  unfold State.closeWindow
  split
  · rename_i drive o rest window openList
    have running : s.bus.running := h.lines.window (by rw [window]; simp)
    have off : (s.offOpenList rest).InOrder :=
      h.setLines _ running (fun _ => .inl rfl) rfl rfl rfl rfl
    have acknowledged : ∀ r, drive = .ack r → s.control.member = true := by
      rintro r rfl
      rcases member : s.control.member with _ | _
      · rcases h.window member with none | idle
        · rw [window] at none; cases none
        · rw [window] at idle; cases idle
      · rfl
    exact ((off.closeAs running drive o ack flt acknowledged).openWindow
      (closeAs_running (s := s.offOpenList rest) running drive o ack flt)).choose
  · exact h

end State.InOrder

/-! ### Every command -/

theorem effectOf_inOrder (c : Instr) (s : State) (h : s.InOrder) : (effectOf c s).InOrder := by
  cases c with
  | pinReset => exact ⟨fun _ => ⟨.inl rfl, rfl, rfl, rfl, rfl, rfl, rfl, rfl, rfl⟩, fun m => (nomatch m),
      ⟨fun w => absurd rfl w, fun t => absurd rfl t, fun m => nomatch m⟩⟩
  | resetRelease straps =>
    exact h.setBus _ h.window rfl rfl rfl rfl h.member
      ⟨h.lines.window, h.lines.transfer, h.lines.mrs⟩
  | lockGain => exact h.lockGain
  | lockLoss => exact h.lockLoss
  | quietBus => exact h.quietBus
  | start => exact h.write _ _
  | leave => exact h.write _ _
  | withdraw => exact h.write _ _
  | reinit => exact h.write _ _
  | controlOther value => exact h.write _ _
  | siteWrite high value => exact h.write _ _
  | eventsClear high value => exact h.write _ _
  | evmaskWrite high value => exact h.write _ _
  | viewSel value => exact h.write _ _
  | findGo value => exact h.write _ _
  | requestSubmit value => exact h.write _ _
  | registerWrite event value =>
    cases event with
    | select =>
      show s.select.InOrder
      unfold State.select
      split
      · exact h
      · exact h.congr rfl rfl rfl rfl rfl
    | byte => exact h.spiByte value
    | write addr => exact h.write _ _
    | read addr => exact h.read _
  | completionTake => exact h.read 0x13#7
  | noticeTake => exact h.read 0x14#7
  | viewPortRead => exact h.read 0x16#7
  | findPortRead => exact h.read 0x1D#7
  | auditPortRead => exact h.read 0x1E#7
  | eventsRead high => cases high; exacts [h.read 0x0C#7, h.read 0x0D#7]
  | commitDigestRead offset =>
    exact h.congr (State.reach_bus true (commitAddr offset) s)
      (State.reach_control true (commitAddr offset) s)
      (congrArg RequestUnit.cursor (State.reach_request true (commitAddr offset) s))
      (congrArg Engine.current (State.reach_engine true (commitAddr offset) s))
      (congrArg Engine.historyRunning (State.reach_engine true (commitAddr offset) s))
  | spiFrameEnd => exact h.congr rfl rfl rfl rfl rfl
  | arbitrationRound req thr started => exact h.round _ _ _
  | priChange asserted =>
    exact h.setBus _ h.window rfl rfl rfl rfl h.member
      ⟨h.lines.window, h.lines.transfer, h.lines.mrs⟩
  | transferEnd rest mrs => exact h.endTransfer _ _
  | checkWindowClose ack flt => exact h.closeWindow _ _
  | mrsRelease =>
    exact h.setBus _ h.window rfl rfl rfl rfl h.member
      ⟨h.lines.window, h.lines.transfer, fun m => nomatch m⟩
  | restartEpisodeBegin => exact h.restartBegin
  | restartEpisodeEnd => exact h.restartEnd
  | application => exact h.application
  | snapshotBuild => exact h.build
  | viewCopy => exact h.copyView
  | findStep => exact h.findStep
  | syncTimerExpiry => exact h.syncTimerExpiry
  | recordStartWithoutRound started => exact h.strayStart _
  | ackOrFltOutOfWindow => exact h.strayAck

/-- Settles O60: every operation keeps membership in order, and a station becomes a member only at the
close of a window, which stands only while it is LOCKED and in step. -/
theorem stepKeepsMembershipInOrder : Obligations.StepKeepsMembershipInOrder := by
  intro s t outsider part h
  rw [← State.inOrder_iff]
  have now := s.inOrder_iff.mpr ⟨outsider, part⟩
  rcases step_cases h with rfl | ⟨c, rest, -, rfl⟩
  · exact now
  · exact effectOf_inOrder c _ (now.congr rfl rfl rfl rfl rfl)

end Sys2Proof.Machine
end

section
/-!
PROOFS. What an application leaves and reports: its flags, the engine after the seven steps, and the
replica that becomes current (R29, R30, R45, R46, R49, R50, R132).
-/
namespace Sys2Proof.Machine

/-! ### The application of the head entry -/

/-- The state with the head entry off the apply queue. -/
def State.offQueue (rest : List ApplyEntry) (s : State) : State :=
  { s with bus := { s.bus with applyQueue := rest } }

/-- A current replica takes the seven steps (R29). -/
theorem State.application_current {s : State} {e : ApplyEntry} {rest : List ApplyEntry}
    (queue : s.bus.applyQueue = e :: rest) (current : s.engine.current = true)
    (join : ¬ (e.record.body.kind = .join ∧ e.record.sender = s.me)) :
    s.application = ((s.offQueue rest).applySteps e).choose := by
  rw [State.application_cons s e rest queue]
  exact congrArg State.choose (State.applyEntry_current e (s.offQueue rest) current join)

/-- The engine of a current replica after an application. -/
theorem State.application_engine {s : State} {e : ApplyEntry} {rest : List ApplyEntry}
    (queue : s.bus.applyQueue = e :: rest) (current : s.engine.current = true)
    (join : ¬ (e.record.body.kind = .join ∧ e.record.sender = s.me)) :
    s.application.engine = (s.engine.applySteps s.me e).engine := by
  rw [State.application_current queue current join, State.choose_engine, State.applySteps_engine]
  rfl

/-- An application takes the head off the queue and leaves the rest of the bus unit. -/
theorem State.application_offQueue {s : State} {e : ApplyEntry} {rest : List ApplyEntry}
    (queue : s.bus.applyQueue = e :: rest) : s.application.bus = (s.offQueue rest).bus := by
  rw [State.application_bus, queue]; rfl

/-- An application leaves the registers of the host port but EVENTS. -/
theorem State.application_registers (s : State) :
    s.application.host.site = s.host.site ∧ s.application.host.mask = s.host.mask ∧
      s.application.host.lastCmd = s.host.lastCmd ∧ s.application.host.find = s.host.find := by
  unfold State.application
  split <;> simp

/-- A completion sets no flag but COMPLETION (R159). -/
theorem State.complete_flag (e : ApplyEntry) (d : Option Decision) (f : Event) (s : State)
    (other : f ≠ .completion) : (s.complete e d).host.flag f = s.host.flag f := by
  unfold State.complete
  split
  · split
    · split
      · rw [State.postReserved_flag, beq_eq_false_iff_ne.mpr other, Bool.or_false]
      · rfl
    · rfl
  · rfl

/-- The flags that the seven steps set beside COMPLETION: NOTICE and DISAGREE (R45, R50). -/
theorem State.applySteps_flag (e : ApplyEntry) (f : Event) (s : State) (other : f ≠ .completion) :
    (s.applySteps e).host.flag f = (s.host.flag f ||
      ((s.engine.applySteps s.me e).noticed && f == .notice) ||
      ((s.engine.applySteps s.me e).disagreed && f == .disagree)) := by
  unfold State.applySteps
  dsimp only
  rw [State.complete_flag _ _ _ _ other, State.setEventIf_flag, State.setEventIf_flag]

/-! ### The engine after the seven steps -/

/-- The course of an application after step 1. -/
def Engine.dropped (e : ApplyEntry) (g : Engine) : Course :=
  ⟨g, g.begin.dropStep (goneAt e) g.horizon g.installed, none, false⟩

/-- The course of an application after step 3: a void commit has no effect (R33). -/
def Engine.effected (me : StationNo) (e : ApplyEntry) (g : Engine) : Course :=
  if e.isVoid then g.dropped e else (g.dropped e).effect me e

/-- The work of an application is that after step 3 with the admission. -/
theorem workOf_eq (me : StationNo) (e : ApplyEntry) (g : Engine) :
    workOf me e g = (g.effected me e).work.admission me e.commit e.freezeAfter e.freezeEnded := rfl

/-- The seven steps in terms of the course after step 3 and the work. -/
theorem Engine.applySteps_eq (me : StationNo) (e : ApplyEntry) (g : Engine) : g.applySteps me e =
    { engine := ((g.effected me e).engine.report e.commit (workOf me e g)).markNotices e.commit
        (workOf me e g).marks
      decision := (g.effected me e).decision.map (·.atEnd (workOf me e g).slots)
      noticed := anyMark (workOf me e g).marks
      disagreed := (g.effected me e).disagreed } := rfl

/-- Step 3 of any record that does not install a snapshot here leaves the engine but for the audit
record (R38 to R45). -/
theorem Course.effect_engine (me : StationNo) (e : ApplyEntry) (c : Course)
    (foreign : ¬ (e.record.body.kind.exclusive = true ∧ e.record.body.target = some me)) :
    (c.effect me e).engine = { c.engine with auditRecord := (c.effect me e).engine.auditRecord } := by
  have audit : ∀ k n d, (c.audit k n d).engine =
      { c.engine with auditRecord := (c.audit k n d).engine.auditRecord } := fun k n d => by
    unfold Course.audit
    split
    · split <;> rfl
    · rfl
  have other : ∀ target, e.record.body.kind.exclusive = true →
      e.record.body.target = some target → target ≠ me := fun target exclusive addressed same =>
    foreign ⟨exclusive, same ▸ addressed⟩
  unfold Course.effect
  split <;> rename_i body <;> rw [body] at other
  case h_7 => exact audit _ _ _
  case h_8 => rw [if_neg (other _ rfl rfl)]
  case h_9 => rw [if_neg (other _ rfl rfl)]
  case h_10 => rw [if_neg (other _ rfl rfl)]
  case h_11 => rw [if_neg (other _ rfl rfl)]
  all_goals rfl

theorem Engine.effected_engine (me : StationNo) (e : ApplyEntry) (g : Engine)
    (foreign : ¬ (e.record.body.kind.exclusive = true ∧ e.record.body.target = some me)) :
    (g.effected me e).engine = { g with auditRecord := (g.effected me e).engine.auditRecord } := by
  unfold Engine.effected
  split
  · rfl
  · exact Course.effect_engine me e (g.dropped e) foreign

theorem anyMark_iff (marks : Vector (Option Cause) 64) :
    anyMark marks = true ↔ ∃ (i : SlotNo) (cause : Cause), marks[i] = some cause := by
  simp [anyMark, mem_upTo, Option.isSome_iff_exists]

/-- The engine after the seven steps where no snapshot is installed here. -/
theorem Engine.applySteps_engine (me : StationNo) (e : ApplyEntry) (g : Engine)
    (foreign : ¬ (e.record.body.kind.exclusive = true ∧ e.record.body.target = some me)) :
    (g.applySteps me e).engine = (({ g with auditRecord := (g.effected me e).engine.auditRecord } :
      Engine).report e.commit (workOf me e g)).markNotices e.commit (workOf me e g).marks := by
  rw [Engine.applySteps_eq, g.effected_engine me e foreign]

/-- Settles O40: the engine after the seven steps, read off their equation. -/
theorem applicationReportsItsCommit : Obligations.ApplicationReportsItsCommit := by
  intro e rest s queue current join foreign w
  have steps := State.application_current queue current join
  have engine := (State.application_engine queue current join).trans
    (s.engine.applySteps_engine s.me e foreign)
  have notices : ∀ i : SlotNo, s.application.engine.notices[i] = match w.marks[i] with
      | some cause => some ⟨cause, e.commit⟩
      | none => s.engine.notices[i] := fun i => by
    rw [engine]; exact getElem_tab _ i
  have flag : s.application.host.flag .notice = (s.host.flag .notice || anyMark w.marks) := by
    rw [steps, State.choose_flag, State.applySteps_flag _ _ _ (by decide), Engine.applySteps_eq]
    simp [State.offQueue, w, State.me]
  obtain ⟨site, mask, lastCmd, find⟩ := s.application_registers
  refine ⟨s.application, rfl, State.application_offQueue queue, s.application_control,
    s.application_pending, s.application_request_lrq, site, mask, lastCmd, find, ?_⟩
  refine ⟨by rw [engine]; rfl, by rw [engine]; rfl, by rw [engine]; rfl, by rw [engine]; rfl,
    by rw [engine]; rfl, by rw [engine]; rfl, by rw [engine]; exact current, fun running => ?_,
    fun stopped => ?_, fun i cause marked => ?_, fun i unmarked => ?_, fun unmarked => ?_⟩
  · rw [engine]; exact if_pos running
  · rw [engine]; exact if_neg (by simp [stopped])
  · rw [notices i, marked, flag, (anyMark_iff w.marks).mpr ⟨i, cause, marked⟩]
    exact ⟨rfl, Bool.or_true _⟩
  · rw [notices i, unmarked]
  · have none : anyMark w.marks = false := by
      rw [← Bool.not_eq_true, anyMark_iff]
      rintro ⟨i, cause, marked⟩
      rw [unmarked i] at marked; cases marked
    rw [flag, none, Bool.or_false]

/-! ### The replica becomes current (R29, R46, R132) -/

theorem Engine.effected_head (me : StationNo) (e : ApplyEntry) (g : Engine) (number : CommitNo)
    (roster : Roster) (list : List StationNo) (body : e.record.body = .snapHead me number roster list)
    (counts : e.isVoid = false) : g.effected me e = (g.dropped e).installHead := by
  unfold Engine.effected Course.effect
  rw [counts, body]
  simp

/-- A SNAP-HEAD at its target leaves empty tables, and no pool touched or admission-due, so nothing is
admitted (R132). -/
theorem workOf_head (me : StationNo) (e : ApplyEntry) (g : Engine) (number : CommitNo)
    (roster : Roster) (list : List StationNo) (body : e.record.body = .snapHead me number roster list)
    (counts : e.isVoid = false) : workOf me e g = (g.dropped e).installHead.work := by
  rw [workOf_eq, g.effected_head me e number roster list body counts]
  refine Work.admission_untouched _ _ _ _ _ (fun p => ?_) (.inr fun p => ?_)
  · simp [Course.installHead]
  · exact congrArg Pool.due (emptyPools_getElem p)

/-- Settles O41: the entry of the own JOIN, the SNAP-HEAD at its target, and every other entry. -/
theorem replicaBecomesCurrentByFoundingOrSnapshot :
    Obligations.ReplicaBecomesCurrentByFoundingOrSnapshot := by
  refine ⟨fun e rest code s queue record after => ?_, fun e rest number roster list s queue body counts => ?_,
    fun e rest s queue current join head => ?_⟩
  · have founds : s.application = ({ s.offQueue rest with engine := s.engine.found } : State).choose := by
      rw [State.application_cons s e rest queue]
      exact congrArg State.choose (State.applyEntry_founding e (s.offQueue rest)
        (by rw [record]; rfl) (by rw [record]; rfl) after)
    have engine : s.application.engine = s.engine.found := by rw [founds, State.choose_engine]
    have host : s.application.host = s.host := by rw [founds, State.choose_host]; rfl
    refine ⟨s.application, rfl, State.application_offQueue queue, s.application_control, host, ?_⟩
    rw [engine]
    exact ⟨emptyPools_getElem, emptySlots_getElem, fun i => by simp [Engine.found], rfl, rfl, rfl, rfl,
      rfl, rfl, rfl⟩
  · have steps : s.application = ((s.offQueue rest).applySteps e).choose := by
      rw [State.application_cons s e rest queue]
      exact congrArg State.choose (State.applyEntry_head e (s.offQueue rest) (by rw [body]; rfl)
        (by simp [Record.addressedTo, body, Body.target, State.offQueue, State.me]) counts)
    have engine : s.application.engine = (((s.engine.dropped e).installHead.engine.report e.commit
        (s.engine.dropped e).installHead.work).markNotices e.commit
        (s.engine.dropped e).installHead.work.marks) := by
      rw [steps, State.choose_engine, State.applySteps_engine]
      show (s.engine.applySteps s.me e).engine = _
      rw [Engine.applySteps_eq, workOf_head s.me e s.engine number roster list body counts,
        Engine.effected_head s.me e s.engine number roster list body counts]
    refine ⟨s.application, rfl, State.application_offQueue queue, s.application_control, ?_⟩
    rw [engine]
    refine ⟨emptyPools_getElem, emptySlots_getElem, fun i => ?_, rfl, rfl, rfl, rfl, rfl, rfl, rfl⟩
    exact (getElem_tab _ i).trans (by simp [Course.installHead, Engine.report])
  · have skips : s.application = (s.offQueue rest).choose := by
      rw [State.application_cons s e rest queue]
      refine congrArg State.choose (State.applyEntry_skip e (s.offQueue rest) current join ?_)
      simpa [Record.addressedTo, State.offQueue, State.me] using head
    refine ⟨s.application, rfl, State.application_offQueue queue, ?_⟩
    rw [skips]
    simp [State.offQueue]
end Sys2Proof.Machine
end

section
/-!
PROOFS. Step 3 for CLAIM, RELEASE and TRIM, one equation for each case of the rules (R38 to R41).
-/
namespace Sys2Proof.Machine

/-! ### The slot available to a CLAIM (R9) -/

theorem stampTaken_iff (slots : Vector (Option Claim) 64) (n : CommitNo) :
    stampTaken slots n = true ↔ ∃ (i : SlotNo) (c : Claim), slots[i] = some c ∧ c.stamp = n := by
  simp [stampTaken, mem_upTo, Option.any_eq_true]

theorem availableSlot_taken {slots : Vector (Option Claim) 64} {n : CommitNo}
    (taken : stampTaken slots n = true) : availableSlot slots n = none := if_pos taken

theorem availableSlot_iff {slots : Vector (Option Claim) 64} {n : CommitNo}
    (new : ¬ stampTaken slots n = true) (i : SlotNo) : availableSlot slots n = some i ↔
      slots[i] = none ∧ ∀ j : SlotNo, j < i → slots[j] ≠ none := by
  rw [availableSlot, if_neg new, find?_upTo_eq_some]
  simp [Option.isSome_iff_ne_none]

/-! ### A CLAIM (R38, R39) -/

theorem waiterAhead_iff (slots : Vector (Option Claim) 64) (p : PoolNo) (cls : Fin 4) :
    waiterAhead slots p cls = true ↔ ∃ (i : SlotNo) (c : Claim), slots[i] = some c ∧ c.pool = p ∧
      c.state = .waiting ∧ cls ≤ c.cls := by
  simp only [waiterAhead, List.any_eq_true, Prod.exists, mem_claimsOf, decide_eq_true_eq, and_assoc]

theorem fits_iff {f : Pool} (within : f.granted.toNat ≤ f.capacity.toNat) (units : BitVec 16) :
    fits f units = true ↔ units.toNat ≤ f.capacity.toNat - f.granted.toNat := by
  simp only [fits, decide_eq_true_eq]
  omega

section
variable (now : CommitNo) (k : StationNo) (p : PoolNo) (u : BitVec 16) (cls : Fin 4) (tag : Byte)

/-- The tables after a CLAIM that is HELD in slot `i` (R39). -/
def Work.claimHeld (i : SlotNo) (w : Work) : Work :=
  ((w.setSlot i (some ⟨.held, k, p, u, cls, tag, now, some now, false⟩)).setPool p
    { w.pools[p] with granted := w.pools[p].granted + u }).touch p

/-- The tables after a CLAIM that is WAITING in slot `i` (R39). -/
def Work.claimWaiting (i : SlotNo) (w : Work) : Work :=
  (w.setSlot i (some ⟨.waiting, k, p, u, cls, tag, now, none, false⟩)).setPool p
    { w.pools[p] with waiting := w.pools[p].waiting + 1 }

variable (wait : Bool) {w : Work} {i : SlotNo}

theorem Work.claim_tooLarge (large : w.pools[p].capacity.toNat < u.toNat) :
    w.claim now k p u cls wait tag = (w, ⟨.tooLarge, none, .none⟩) := if_pos large

variable (small : ¬ w.pools[p].capacity.toNat < u.toNat)
include small

theorem Work.claim_quota (most : 16 ≤ holdingCount w.slots k) :
    w.claim now k p u cls wait tag = (w, ⟨.quota, none, .none⟩) :=
  (if_neg small).trans (if_pos most)

variable (fewer : ¬ 16 ≤ holdingCount w.slots k)
include fewer

theorem Work.claim_full (full : availableSlot w.slots now = none) :
    w.claim now k p u cls wait tag = (w, ⟨.full, none, .none⟩) := by
  refine (if_neg small).trans ((if_neg fewer).trans ?_)
  rw [full]

variable (slot : availableSlot w.slots now = some i)
include slot

theorem Work.claim_held (room : fits w.pools[p] u = true) (first : ¬ waiterAhead w.slots p cls = true) :
    w.claim now k p u cls wait tag = (w.claimHeld now k p u cls tag i, ⟨.held, some i, .none⟩) := by
  refine (if_neg small).trans ((if_neg fewer).trans ?_)
  rw [slot]
  exact if_pos (by rw [room, Bool.true_and]; simpa using first)

variable (blocked : ¬ (fits w.pools[p] u = true ∧ ¬ waiterAhead w.slots p cls = true))
include blocked

theorem Work.claim_waiting : w.claim now k p u cls true tag =
    (w.claimWaiting now k p u cls tag i, ⟨.waiting, some i, .none⟩) := by
  refine (if_neg small).trans ((if_neg fewer).trans ?_)
  rw [slot]
  exact if_neg (by simpa using blocked)

theorem Work.claim_busy :
    w.claim now k p u cls false tag = (w, ⟨.busy, none, .none⟩) := by
  refine (if_neg small).trans ((if_neg fewer).trans ?_)
  rw [slot]
  exact if_neg (by simpa using blocked)

end

/-- What a CLAIM can do: a claim is created in the slot available, or nothing changes. -/
theorem Work.claim_cases (now : CommitNo) (k : StationNo) (p : PoolNo) (u : BitVec 16) (cls : Fin 4)
    (wait : Bool) (tag : Byte) (w : Work) :
    (∃ i, availableSlot w.slots now = some i ∧
      (w.claim now k p u cls wait tag = (w.claimHeld now k p u cls tag i, ⟨.held, some i, .none⟩) ∨
        w.claim now k p u cls wait tag =
          (w.claimWaiting now k p u cls tag i, ⟨.waiting, some i, .none⟩))) ∨
    ∃ o : Outcome, o ≠ .held ∧ o ≠ .waiting ∧ w.claim now k p u cls wait tag = (w, ⟨o, none, .none⟩) := by
  by_cases small : w.pools[p].capacity.toNat < u.toNat
  · exact .inr ⟨.tooLarge, by decide, by decide, Work.claim_tooLarge now k p u cls tag wait small⟩
  by_cases fewer : 16 ≤ holdingCount w.slots k
  · exact .inr ⟨.quota, by decide, by decide, Work.claim_quota now k p u cls tag wait small fewer⟩
  rcases slot : availableSlot w.slots now with _ | i
  · exact .inr ⟨.full, by decide, by decide, Work.claim_full now k p u cls tag wait small fewer slot⟩
  by_cases free : fits w.pools[p] u = true ∧ ¬ waiterAhead w.slots p cls = true
  · exact .inl ⟨i, rfl, .inl (Work.claim_held now k p u cls tag wait small fewer slot free.1 free.2)⟩
  cases wait
  · exact .inr ⟨.busy, by decide, by decide, Work.claim_busy now k p u cls tag small fewer slot free⟩
  · exact .inl ⟨i, rfl, .inr (Work.claim_waiting now k p u cls tag small fewer slot free)⟩

/-- A table with one flag set. -/
theorem put_true_getElem (v : Vector Bool 8) (p q : PoolNo) :
    (put v p true)[q] = (v[q] || decide (q = p)) := by
  by_cases same : p = q
  · subst same; rw [getElem_put_same]; simp
  · rw [getElem_put_other _ _ _ _ same, decide_eq_false (Ne.symm same), Bool.or_false]

/-- Settles O42: each condition of the table by its equation, what is created by the cases of a CLAIM. -/
theorem claimIsDecidedInOrder : Obligations.ClaimIsDecidedInOrder := by
  refine ⟨?_, fun slots n => ?_⟩
  · intro now k p u cls wait tag w free blocked v d within
    have ready : u.toNat ≤ free ∧ ¬ blocked ↔
        fits w.pools[p] u = true ∧ ¬ waiterAhead w.slots p cls = true := by
      rw [fits_iff within, waiterAhead_iff]
    refine ⟨fun large => ?_, fun small most => ?_, fun small fewer => ⟨fun full => ?_, fun some => ?_⟩,
      fun created => ?_, fun held waiting => ?_⟩
    · exact congrArg (·.2.outcome) (Work.claim_tooLarge now k p u cls tag wait large)
    · exact congrArg (·.2.outcome) (Work.claim_quota now k p u cls tag wait (not_lt.mpr small) most)
    · exact congrArg (·.2.outcome)
        (Work.claim_full now k p u cls tag wait (not_lt.mpr small) (not_le.mpr fewer) full)
    · obtain ⟨i, slot⟩ := Option.ne_none_iff_exists'.mp some
      rw [ready]
      refine ⟨fun ⟨room, first⟩ => ?_, fun full yes => ?_, fun full no => ?_⟩
      · exact congrArg (·.2.outcome) (Work.claim_held now k p u cls tag wait (not_lt.mpr small)
          (not_le.mpr fewer) slot room first)
      · subst yes
        exact congrArg (·.2.outcome) (Work.claim_waiting now k p u cls tag (not_lt.mpr small)
          (not_le.mpr fewer) slot full)
      · subst no
        exact congrArg (·.2.outcome) (Work.claim_busy now k p u cls tag (not_lt.mpr small)
          (not_le.mpr fewer) slot full)
    · rcases w.claim_cases now k p u cls wait tag with ⟨i, slot, does | does⟩ | ⟨o, held, waiting, does⟩
      · have after : v = w.claimHeld now k p u cls tag i := congrArg Prod.fst does
        have decided : d = ⟨.held, some i, .none⟩ := congrArg Prod.snd does
        rw [after, decided]
        refine ⟨i, slot, rfl, getElem_put_same .., fun j other => getElem_put_other _ _ _ _ other.symm,
          getElem_put_same .., fun q other => getElem_put_other _ _ _ _ other.symm, fun q => ?_, rfl⟩
        exact (put_true_getElem w.touched p q).trans (by simp)
      · have after : v = w.claimWaiting now k p u cls tag i := congrArg Prod.fst does
        have decided : d = ⟨.waiting, some i, .none⟩ := congrArg Prod.snd does
        rw [after, decided]
        refine ⟨i, slot, rfl, getElem_put_same .., fun j other => getElem_put_other _ _ _ _ other.symm,
          getElem_put_same .., fun q other => getElem_put_other _ _ _ _ other.symm, fun q => ?_, rfl⟩
        exact (Bool.or_false _).symm.trans (by simp [Work.claimWaiting, Work.setPool, Work.setSlot])
      · simp only [d, does] at created
        exact (created.elim held waiting).elim
    · rcases w.claim_cases now k p u cls wait tag with ⟨i, -, does | does⟩ | ⟨o, -, -, does⟩
      · exact absurd (congrArg (·.2.outcome) does) held
      · exact absurd (congrArg (·.2.outcome) does) waiting
      · exact ⟨congrArg Prod.fst does, congrArg (·.2.slot) does⟩
  · rw [← stampTaken_iff]
    exact ⟨availableSlot_taken, availableSlot_iff⟩

/-! ### RELEASE and TRIM (R40, R41) -/

theorem matching_some {slots : Vector (Option Claim) 64} {i : SlotNo} {c : Claim}
    (slot : slots[i] = some c) : matching slots c.holder i c.tag = some c := by
  simp [matching, slot]

theorem matching_none {slots : Vector (Option Claim) 64} {k : StationNo} {i : SlotNo} {tag : Byte}
    (other : ∀ c, slots[i] = some c → c.holder ≠ k ∨ c.tag ≠ tag) : matching slots k i tag = none := by
  unfold matching
  rw [Option.filter_eq_none_iff]
  intro c slot both
  simp only [Bool.and_eq_true, beq_iff_eq] at both
  rcases other c slot with holder | tag
  · exact holder both.1
  · exact tag both.2

section
variable {w : Work} {i : SlotNo} {c : Claim} (slot : w.slots[i] = some c)
include slot

theorem Work.release_matching : w.release c.holder i c.tag =
    ((w.free i c).touch c.pool, ⟨.released, some i, .none⟩) := by
  rw [Work.release, matching_some slot]

theorem Work.trim_range {n : BitVec 16} (high : c.units.toNat ≤ n.toNat) :
    w.trim c.holder i c.tag n = (w, ⟨.range, some i, .none⟩) := by
  rw [Work.trim, matching_some slot]
  exact if_pos high

/-- The pool record after a TRIM of its claim. -/
def Pool.trimmed (f : Pool) (c : Claim) (n : BitVec 16) : Pool :=
  match c.state with
  | .held => { f with granted := f.granted - (c.units - n) }
  | .waiting => f

theorem Work.trim_trimmed {n : BitVec 16} (low : n.toNat < c.units.toNat) :
    w.trim c.holder i c.tag n =
      (((w.setSlot i (some { c with units := n })).setPool c.pool
        (w.pools[c.pool].trimmed c n)).touch c.pool, ⟨.trimmed, some i, .none⟩) := by
  rw [Work.trim, matching_some slot]
  exact if_neg (not_le.mpr low)

end

theorem Work.release_stale {w : Work} {k : StationNo} {i : SlotNo} {tag : Byte}
    (other : ∀ c, w.slots[i] = some c → c.holder ≠ k ∨ c.tag ≠ tag) :
    w.release k i tag = (w, ⟨.stale, some i, .none⟩) := by
  rw [Work.release, matching_none other]

theorem Work.trim_stale {w : Work} {k : StationNo} {i : SlotNo} {tag : Byte}
    (other : ∀ c, w.slots[i] = some c → c.holder ≠ k ∨ c.tag ≠ tag) (n : BitVec 16) :
    w.trim k i tag n = (w, ⟨.stale, some i, .none⟩) := by
  rw [Work.trim, matching_none other]

/-! ### Step 1 (R32) -/

/-- The claims of a pool that step 1 frees. -/
def freedClaims (gone : StationNo → Bool) (horizon : Nat) (slots : Vector (Option Claim) 64)
    (p : PoolNo) (st : ClaimState) : List (SlotNo × Claim) :=
  (claimsOf slots p st).filter fun x => gone x.2.holder && decide (x.1.val < horizon)

theorem mem_freedClaims (gone : StationNo → Bool) (horizon : Nat) (slots : Vector (Option Claim) 64)
    (p : PoolNo) (st : ClaimState) (i : SlotNo) (c : Claim) :
    (i, c) ∈ freedClaims gone horizon slots p st ↔
      (slots[i] = some c ∧ c.pool = p ∧ c.state = st) ∧ gone c.holder = true ∧ i.val < horizon := by
  simp [freedClaims, mem_claimsOf]

/-- They are the claims of the pool in the table of the slots that step 1 frees. -/
theorem freedClaims_eq (gone : StationNo → Bool) (horizon : Nat) (slots : Vector (Option Claim) 64)
    (p : PoolNo) (st : ClaimState) : freedClaims gone horizon slots p st =
      claimsOf (tab fun i => if freedAt gone horizon slots i then slots[i] else none) p st := by
  unfold freedClaims claimsOf
  rw [List.filter_filterMap]
  refine List.filterMap_congr fun i _ => ?_
  rw [getElem_tab]
  unfold freedAt
  rcases slots[i] with _ | c
  · simp
  · by_cases mine : c.pool = p ∧ c.state = st <;> by_cases freed : gone c.holder = true ∧ i.val < horizon <;>
      simp [mine, freed, Option.filter]

theorem total_freedAt (gone : StationNo → Bool) (horizon : Nat) (slots : Vector (Option Claim) 64)
    (p : PoolNo) (st : ClaimState) (weight : Claim → Nat) :
    total (tab fun i => if freedAt gone horizon slots i then slots[i] else none) p st weight =
      ∑ i : SlotNo, if freedAt gone horizon slots i then share p st weight slots[i] else 0 := by
  refine Finset.sum_congr rfl fun i _ => ?_
  rw [getElem_tab]
  split <;> rfl

theorem freedUnitsOf_sum (gone : StationNo → Bool) (horizon : Nat) (slots : Vector (Option Claim) 64)
    (p : PoolNo) : freedUnitsOf gone horizon slots p =
      ((freedClaims gone horizon slots p .held).map fun x => x.2.units.toNat).sum := by
  rw [freedUnitsOf_eq, ← total_freedAt, freedClaims_eq]
  exact (sum_claimsOf _ p .held unitsOf).symm

theorem freedWaitingOf_length (gone : StationNo → Bool) (horizon : Nat)
    (slots : Vector (Option Claim) 64) (p : PoolNo) : freedWaitingOf gone horizon slots p =
      (freedClaims gone horizon slots p .waiting).length := by
  rw [freedWaitingOf_eq, ← total_freedAt, freedClaims_eq, length_claimsOf]

theorem freedAt_eq {slots : Vector (Option Claim) 64} {i : SlotNo} {c : Claim}
    (slot : slots[i] = some c) (gone : StationNo → Bool) (horizon : Nat) :
    freedAt gone horizon slots i = (gone c.holder && decide (i.val < horizon)) := by
  rw [freedAt, slot]

theorem freesInPool_iff (gone : StationNo → Bool) (horizon : Nat) (slots : Vector (Option Claim) 64)
    (p : PoolNo) : freesInPool gone horizon slots p = true ↔
      freedClaims gone horizon slots p .held ≠ [] ∨ freedClaims gone horizon slots p .waiting ≠ [] := by
  have frees : freesInPool gone horizon slots p = true ↔ ∃ (i : SlotNo) (c : Claim),
      slots[i] = some c ∧ c.pool = p ∧ gone c.holder = true ∧ i.val < horizon := by
    simp only [freesInPool, List.any_eq_true, mem_upTo, true_and, Bool.and_eq_true, Option.any_eq_true,
      beq_iff_eq]
    refine exists_congr fun i => ⟨fun ⟨freed, c, slot, pool⟩ => ?_, fun ⟨c, slot, pool, freed⟩ => ?_⟩
    · rw [freedAt_eq slot] at freed
      exact ⟨c, slot, pool, by simpa using freed⟩
    · rw [freedAt_eq slot]
      exact ⟨by simpa using freed, c, slot, pool⟩
  have listed : ∀ st, freedClaims gone horizon slots p st ≠ [] ↔ ∃ (i : SlotNo) (c : Claim),
      (slots[i] = some c ∧ c.pool = p ∧ c.state = st) ∧ gone c.holder = true ∧ i.val < horizon := by
    intro st
    simp only [ne_eq, List.eq_nil_iff_forall_not_mem, not_forall, not_not, Prod.exists, mem_freedClaims]
  rw [frees, listed, listed]
  constructor
  · rintro ⟨i, c, slot, pool, freed⟩
    rcases state : c.state
    · exact .inl ⟨i, c, ⟨slot, pool, state⟩, freed⟩
    · exact .inr ⟨i, c, ⟨slot, pool, state⟩, freed⟩
  · rintro (⟨i, c, ⟨slot, pool, -⟩, freed⟩ | ⟨i, c, ⟨slot, pool, -⟩, freed⟩)
    · exact ⟨i, c, slot, pool, freed⟩
    · exact ⟨i, c, slot, pool, freed⟩

theorem goneAt_iff (e : ApplyEntry) (k : StationNo) : goneAt e k = true ↔
    k ∈ e.drop ∨ e.record.body = .leave ∧ k = e.record.sender := by
  have leave : e.record.body.kind = .leave ↔ e.record.body = .leave := by
    cases e.record.body <;> simp [Body.kind]
  simp [goneAt, leave]

/-- Settles O45: RELEASE and TRIM by their equations, step 1 entry by entry. -/
theorem releaseAndTrimChangeTheirSlot : Obligations.ReleaseAndTrimChangeTheirSlot := by
  refine ⟨fun k i tag w => ⟨?_, fun other => ⟨Work.release_stale other, Work.trim_stale other⟩⟩,
    ?_, fun me e g => ⟨goneAt_iff e, fun void => ?_⟩⟩
  · rintro c slot rfl rfl
    refine ⟨?_, fun n high => Work.trim_range slot high, fun n low => ?_⟩
    · rw [Work.release_matching slot]
      refine ⟨rfl, getElem_put_same .., fun j other => getElem_put_other _ _ _ _ other.symm, rfl,
        put_true_getElem _ _, fun q other => getElem_put_other _ _ _ _ other.symm, fun held => ?_,
        fun waits => ?_⟩
      · exact (getElem_put_same ..).trans (by rw [Pool.without, held])
      · exact (getElem_put_same ..).trans (by rw [Pool.without, waits])
    · rw [Work.trim_trimmed slot low]
      refine ⟨rfl, getElem_put_same .., fun j other => getElem_put_other _ _ _ _ other.symm, rfl,
        put_true_getElem _ _, fun q other => getElem_put_other _ _ _ _ other.symm, fun held => ?_,
        fun waits => ?_⟩
      · exact (getElem_put_same ..).trans (by rw [Pool.trimmed, held])
      · exact (getElem_put_same ..).trans (by rw [Pool.trimmed, waits])
  · intro gone horizon installed w v freed
    refine ⟨rfl, fun i none => ?_, fun i c slot => ?_, fun p new => ?_, fun p old => ?_, fun p => ?_⟩
    · refine (getElem_tab _ i).trans ?_
      rw [none, ite_self]
    · refine (getElem_tab _ i).trans ?_
      rw [freedAt_eq slot, slot]
      simp
    · exact (getElem_tab _ p).trans (if_neg (by simp [new]))
    · unfold v Work.dropStep
      rw [getElem_tab, if_pos old, freedUnitsOf_sum, freedWaitingOf_length]
      rfl
    · exact (iff_of_eq (congrArg (· = true) (getElem_tab _ p))).trans
        (freesInPool_iff gone horizon w.slots p)
  · unfold Engine.applySteps workOf
    rw [void]
    exact ⟨rfl, rfl⟩

end Sys2Proof.Machine
end

section
/-!
PROOFS. What an application reports of an AUDIT, and the completion of an own ordinary record (R45, R51,
R152).
-/
namespace Sys2Proof.Machine

/-! ### An AUDIT (R45) -/

theorem Course.audit_differs {c : Course} {n : CommitNo} {own d : Digest}
    (held : lookup c.engine.history n = some own) (differs : own ≠ d) (k : StationNo) :
    c.audit k n d = { c with
      engine := { c.engine with auditRecord := some ⟨k, n, own, d⟩ }, disagreed := true } := by
  rw [Course.audit, held]
  exact if_neg (by simpa using differs)

theorem Course.audit_agrees {c : Course} {n : CommitNo} {d : Digest}
    (agrees : lookup c.engine.history n = none ∨ lookup c.engine.history n = some d) (k : StationNo) :
    c.audit k n d = c := by
  unfold Course.audit
  rcases agrees with none | same
  · rw [none]
  · rw [same]; exact if_pos (beq_self_eq_true d)

theorem Course.audit_work (c : Course) (k : StationNo) (n : CommitNo) (d : Digest) :
    (c.audit k n d).work = c.work := by
  unfold Course.audit
  split
  · split <;> rfl
  · rfl

/-- The course of an AUDIT after step 3. -/
theorem Engine.effected_audit (me : StationNo) (e : ApplyEntry) (g : Engine) {n : CommitNo} {d : Digest}
    (counts : e.isVoid = false) (body : e.record.body = .audit n d) : g.effected me e =
      { (g.dropped e).audit e.record.sender n d with
        decision := some ⟨.audited, none, .distance (e.commit - n)⟩ } := by
  unfold Engine.effected Course.effect
  rw [counts, body]
  rfl

/-- An AUDIT that drops no one and at which no pass is owed leaves the tables (R45). -/
theorem workOf_audit (me : StationNo) (e : ApplyEntry) (g : Engine) {n : CommitNo} {d : Digest}
    (counts : e.isVoid = false) (body : e.record.body = .audit n d) (drop : e.drop = [])
    (ended : e.freezeEnded = false) : workOf me e g = g.begin := by
  have work : (g.effected me e).work = g.begin := by
    rw [g.effected_audit me e counts body]
    refine (Course.audit_work _ _ _ _).trans (g.dropStep_nothing _ ?_)
    exact goneAt_none e drop (by rw [body]; simp [Body.kind])
  rw [workOf_eq, work]
  exact Work.admission_untouched _ _ _ _ _ (fun p => by simp [Engine.begin]) (.inl ended)

/-- With no entry marked the notice table stays. -/
theorem Engine.markNotices_none (g : Engine) (number : CommitNo) :
    g.markNotices number (Vector.replicate 64 none) = g := by
  have kept : tab (fun i : SlotNo => match (Vector.replicate 64 (none : Option Cause))[i] with
      | some cause => some ⟨cause, number⟩
      | none => g.notices[i]) = g.notices :=
    (congrArg tab (funext fun i => by simp)).trans (tab_getElem g.notices)
  exact congrArg (fun notices => { g with notices }) kept

/-! ### The report of step 6 (R49) -/

theorem Engine.report_pools (number : CommitNo) (w : Work) (g : Engine) :
    (g.report number w).pools = w.pools := rfl

theorem Engine.report_slots (number : CommitNo) (w : Work) (g : Engine) :
    (g.report number w).slots = w.slots := rfl

theorem Engine.report_notices (number : CommitNo) (w : Work) (g : Engine) :
    (g.report number w).notices = g.notices := rfl

theorem Engine.report_auditRecord (number : CommitNo) (w : Work) (g : Engine) :
    (g.report number w).auditRecord = g.auditRecord := rfl

/-! ### The report of an AUDIT (R45) -/

/-- Settles O46: an AUDIT leaves the work as it began, and its lookup decides the rest. -/
theorem auditReportsDisagreement : Obligations.AuditReportsDisagreement := by
  intro e rest n d s queue current body counts drop ended
  have join : ¬ (e.record.body.kind = .join ∧ e.record.sender = s.me) := by
    rintro ⟨kind, -⟩; rw [body] at kind; cases kind
  have foreign : ¬ (e.record.body.kind.exclusive = true ∧ e.record.body.target = some s.me) := by
    rintro ⟨exclusive, -⟩; rw [body] at exclusive; cases exclusive
  have work := workOf_audit s.me e s.engine counts body drop ended
  have steps := (State.application_engine queue current join).trans
    (s.engine.applySteps_engine s.me e foreign)
  rw [work] at steps
  have engine := steps.trans (Engine.markNotices_none _ _)
  have flag : s.application.host.flag .disagree =
      (s.host.flag .disagree || (s.engine.effected s.me e).disagreed) := by
    rw [State.application_current queue current join, State.choose_flag,
      State.applySteps_flag _ _ _ (by decide), Engine.applySteps_eq]
    simp [State.offQueue, State.me, beq_eq_false_iff_ne.mpr (by decide : Event.disagree ≠ .notice)]
  rw [s.engine.effected_audit s.me e counts body] at engine flag
  have record := (congrArg Engine.auditRecord engine).trans (Engine.report_auditRecord ..)
  refine ⟨s.application, rfl, (congrArg Engine.pools engine).trans (Engine.report_pools ..),
    (congrArg Engine.slots engine).trans (Engine.report_slots ..),
    (congrArg Engine.notices engine).trans (Engine.report_notices ..), fun own held differs => ?_,
    fun agrees => ?_⟩
  · rw [Course.audit_differs (c := s.engine.dropped e) held differs] at record flag
    exact ⟨record, flag.trans (Bool.or_true _)⟩
  · rw [Course.audit_agrees (c := s.engine.dropped e) agrees] at record flag
    exact ⟨record, flag.trans (Bool.or_false _)⟩

/-! ### The decision of an ordinary record (R51) -/

section
variable {me : StationNo} {e : ApplyEntry} {g : Engine} (counts : e.isVoid = false)
include counts

theorem Engine.effected_claim {p : PoolNo} {u : BitVec 16} {cls : Fin 4} {wait : Bool} {tag : Byte}
    (body : e.record.body = .claim p u cls wait tag) : g.effected me e = (g.dropped e).decide
      ((g.dropped e).work.claim e.commit e.record.sender p u cls wait tag) := by
  unfold Engine.effected Course.effect
  rw [counts, body]
  rfl

theorem Engine.effected_release {i : SlotNo} {tag : Byte} (body : e.record.body = .release i tag) :
    g.effected me e = (g.dropped e).decide ((g.dropped e).work.release e.record.sender i tag) := by
  unfold Engine.effected Course.effect
  rw [counts, body]
  rfl

theorem Engine.effected_trim {i : SlotNo} {tag : Byte} {u : BitVec 16}
    (body : e.record.body = .trim i tag u) :
    g.effected me e = (g.dropped e).decide ((g.dropped e).work.trim e.record.sender i tag u) := by
  unfold Engine.effected Course.effect
  rw [counts, body]
  rfl

theorem Engine.effected_setcap {p : PoolNo} {u : BitVec 16} (body : e.record.body = .setcap p u) :
    g.effected me e = (g.dropped e).decide ((g.dropped e).work.setcap me e.commit p u) := by
  unfold Engine.effected Course.effect
  rw [counts, body]
  rfl

/-- Every ordinary record is decided. -/
theorem Engine.effected_decided (ordinary : e.record.body.kind.ordinary = true) :
    ∃ d, (g.effected me e).decision = some d := by
  rcases body : e.record.body <;> rw [body] at ordinary
  case claim => exact ⟨_, congrArg Course.decision (Engine.effected_claim counts body)⟩
  case release => exact ⟨_, congrArg Course.decision (Engine.effected_release counts body)⟩
  case trim => exact ⟨_, congrArg Course.decision (Engine.effected_trim counts body)⟩
  case setcap => exact ⟨_, congrArg Course.decision (Engine.effected_setcap counts body)⟩
  case audit => exact ⟨_, congrArg Course.decision (g.effected_audit me e counts body)⟩
  all_goals cases ordinary

end

/-- A RELEASE names its slot, whatever it decides. -/
theorem Work.release_decision (k : StationNo) (i : SlotNo) (tag : Byte) (w : Work) :
    (w.release k i tag).2.slot = some i ∧ (w.release k i tag).2.extra = .none ∧
      (w.release k i tag).2.outcome ≠ .held ∧ (w.release k i tag).2.outcome ≠ .waiting := by
  unfold Work.release
  split <;> simp

/-- A TRIM names its slot, whatever it decides. -/
theorem Work.trim_decision (k : StationNo) (i : SlotNo) (tag : Byte) (u : BitVec 16) (w : Work) :
    (w.trim k i tag u).2.slot = some i ∧ (w.trim k i tag u).2.extra = .none ∧
      (w.trim k i tag u).2.outcome ≠ .held ∧ (w.trim k i tag u).2.outcome ≠ .waiting := by
  unfold Work.trim
  split
  · simp
  · split <;> simp

/-- A CLAIM that is HELD or WAITING has its claim in the slot it names; any other has no extra. -/
theorem Work.claim_decision (now : CommitNo) (k : StationNo) (p : PoolNo) (u : BitVec 16) (cls : Fin 4)
    (wait : Bool) (tag : Byte) (w : Work) :
    (w.claim now k p u cls wait tag).2.extra = .none ∧
    ((w.claim now k p u cls wait tag).2.outcome = .held ∨
      (w.claim now k p u cls wait tag).2.outcome = .waiting →
      ∀ i, (w.claim now k p u cls wait tag).2.slot = some i →
        (w.claim now k p u cls wait tag).1.slots[i].isSome = true) := by
  rcases w.claim_cases now k p u cls wait tag with ⟨i, -, does | does⟩ | ⟨o, held, waiting, does⟩
  · rw [does]
    refine ⟨rfl, fun _ j same => ?_⟩
    cases same
    exact congrArg Option.isSome (getElem_put_same ..)
  · rw [does]
    refine ⟨rfl, fun _ j same => ?_⟩
    cases same
    exact congrArg Option.isSome (getElem_put_same ..)
  · rw [does]
    exact ⟨rfl, fun created => (created.elim held waiting).elim⟩

/-- Admission frees no slot (R35). -/
theorem Work.admission_isSome (me : StationNo) (now : CommitNo) (after ended : Bool) (i : SlotNo)
    (w : Work) (some : w.slots[i].isSome = true) :
    (w.admission me now after ended).slots[i].isSome = true := by
  refine Work.admission_keeps (P := fun v => v.slots[i].isSome = true) me now ?_ (fun _ _ _ h => h)
    after ended w some
  intro p v j c h _ _ _ _
  rw [Work.admitClaim_slots]
  by_cases same : j = i
  · subst same; rw [getElem_put_same]; rfl
  · rw [getElem_put_other _ _ _ _ same]; exact h

/-! ### The decision at the end of the application (R51) -/

theorem Decision.atEnd_outcome (slots : Vector (Option Claim) 64) (d : Decision) :
    (d.atEnd slots).outcome = d.outcome ∧ (d.atEnd slots).slot = d.slot := by
  unfold Decision.atEnd
  split <;> exact ⟨rfl, rfl⟩

/-- Only a CLAIM's extra waits for the end of the application. -/
theorem Decision.atEnd_other (slots : Vector (Option Claim) 64) {d : Decision} (held : d.outcome ≠ .held)
    (waiting : d.outcome ≠ .waiting) : d.atEnd slots = d := by
  unfold Decision.atEnd
  split
  · rename_i is _; exact absurd is held
  · rename_i is _; exact absurd is waiting
  · rfl

/-- The extra of a CLAIM is the state its claim has at the end. -/
theorem Decision.atEnd_claim {slots : Vector (Option Claim) 64} {d : Decision} {i : SlotNo} {x : Claim}
    (created : d.outcome = .held ∨ d.outcome = .waiting) (slot : d.slot = some i)
    (stands : slots[i] = some x) : (d.atEnd slots).extra = .claimState x.state := by
  obtain ⟨outcome, named, extra⟩ := d
  dsimp only at created slot
  subst slot
  rcases created with rfl | rfl <;> simp only [Decision.atEnd, stands] <;> rfl

/-! ### The completion (R51, R144, R152) -/

/-- The head of the outcome list leaves it and its completion is posted from the reserved place. -/
theorem State.complete_own {s : State} {e : ApplyEntry} {d : Decision} {o : OutcomeEntry}
    {os : List OutcomeEntry} (sender : e.record.sender = s.me) (outcomes : s.request.outcomes = o :: os)
    (commit : o.commit = e.commit) : s.complete e (some d) =
      State.postReserved ⟨o.ref, o.kind, d.outcome, d.slot, d.extra, some e.commit⟩
        { s with request := { s.request with outcomes := os } } := by
  unfold State.complete
  rw [if_pos sender, outcomes]
  exact if_pos commit

/-- The reports of an application before its completion: the engine, NOTICE and DISAGREE. -/
def State.reported (r : Applied) (s : State) : State :=
  ((({ s with engine := r.engine } : State).setEventIf r.noticed .notice).setEventIf r.disagreed
    .disagree)

theorem State.reported_request (r : Applied) (s : State) : (s.reported r).request = s.request := by
  simp [State.reported]

/-- The application of an own ordinary record, another own record standing: it posts the completion of
the head of the outcome list from the reserved place (R51, R144). -/
theorem State.application_completes {s : State} {e : ApplyEntry} {rest : List ApplyEntry}
    {o : OutcomeEntry} {os : List OutcomeEntry} {d : Decision}
    (queue : s.bus.applyQueue = e :: rest) (current : s.engine.current = true)
    (sender : e.record.sender = s.me) (ordinary : e.record.body.kind.ordinary = true)
    (outcomes : s.request.outcomes = o :: os) (commit : o.commit = e.commit)
    (own : s.request.own ≠ none) (decided : (s.engine.effected s.me e).decision = some d) :
    let done := d.atEnd (workOf s.me e s.engine).slots
    s.application.request = { s.request with
      outcomes := os, reserved := s.request.reserved - 1
      completions := s.request.completions ++
        [⟨o.ref, o.kind, done.outcome, done.slot, done.extra, some e.commit⟩] } ∧
    s.application.host.flag .completion = true := by
  intro done
  have join : ¬ (e.record.body.kind = .join ∧ e.record.sender = s.me) := by
    rintro ⟨kind, -⟩; rw [kind] at ordinary; cases ordinary
  have decision : (s.engine.applySteps s.me e).decision = some done := by
    rw [Engine.applySteps_eq, decided]; rfl
  have steps : (s.offQueue rest).applySteps e =
      ((s.offQueue rest).reported (s.engine.applySteps s.me e)).complete e (some done) := by
    rw [← decision]; rfl
  have request := State.reported_request (s.engine.applySteps s.me e) (s.offQueue rest)
  have posted := State.complete_own (d := done)
    (s := (s.offQueue rest).reported (s.engine.applySteps s.me e))
    (by rw [sender]; simp [State.reported, State.offQueue, State.me])
    ((congrArg RequestUnit.outcomes request).trans outcomes) commit
  have stays : ((s.offQueue rest).applySteps e).request.own ≠ none := by
    rw [steps, State.complete_request_own, request]
    exact own
  rw [State.application_current queue current join, State.choose_of_own _ stays, steps, posted]
  refine ⟨?_, ?_⟩
  · exact congrArg (fun r : RequestUnit => { r with
      outcomes := os, reserved := r.reserved - 1
      completions := r.completions ++
        [(⟨o.ref, o.kind, done.outcome, done.slot, done.extra, some e.commit⟩ : Completion)] }) request
  · rw [State.postReserved_flag]; exact Bool.or_true _

/-- Settles O47: the completion carries the record's decision at the end of the application. -/
theorem appliedOwnRecordIsCompleted : Obligations.AppliedOwnRecordIsCompleted := by
  intro e rest o os own s queue current sender ordinary counts outcomes commit owns w
  obtain ⟨d, decided⟩ := Engine.effected_decided (me := s.me) (g := s.engine) counts ordinary
  obtain ⟨request, flag⟩ := State.application_completes queue current sender ordinary outcomes commit
    (by rw [owns]; simp) decided
  obtain ⟨outcome, slot⟩ := d.atEnd_outcome (workOf s.me e s.engine).slots
  rw [outcome, slot] at request
  have join : ¬ (e.record.body.kind = .join ∧ e.record.sender = s.me) := by
    rintro ⟨kind, -⟩; rw [kind] at ordinary; cases ordinary
  have slots : s.application.engine.slots = (workOf s.me e s.engine).slots := by
    rw [State.application_engine queue current join, Engine.applySteps_slots]
  refine ⟨s.application, rfl, by rw [request], by rw [request], flag, by rw [request]; exact owns,
    by rw [request], _, by rw [request], rfl, rfl, rfl, ?_⟩
  dsimp only
  refine ⟨fun p u cls wait tag body => ?_, fun i tag body => ?_, fun i tag u body => ?_,
    fun p u body => ?_, fun n x body => ?_⟩
  · rw [Engine.effected_claim counts body, sender] at decided
    obtain ⟨extra, created⟩ := w.claim_decision e.commit s.me p u cls wait tag
    have is : (w.claim e.commit s.me p u cls wait tag).2 = d := Option.some.inj decided
    rw [is] at extra created ⊢
    refine ⟨rfl, rfl, fun held waiting => ?_, fun i claimed named => ?_⟩
    · rw [Decision.atEnd_other _ held waiting]; exact extra
    · have stands : (workOf s.me e s.engine).slots[i].isSome = true := by
        rw [workOf_eq, Engine.effected_claim counts body, sender]
        exact Work.admission_isSome _ _ _ _ i _ (created claimed i named)
      obtain ⟨x, stands⟩ := Option.isSome_iff_exists.mp stands
      exact ⟨x, by rw [slots]; exact stands, Decision.atEnd_claim claimed named stands⟩
  · rw [Engine.effected_release counts body, sender] at decided
    obtain ⟨named, extra, held, waiting⟩ := w.release_decision s.me i tag
    have is : (w.release s.me i tag).2 = d := Option.some.inj decided
    rw [is] at named extra held waiting ⊢
    rw [Decision.atEnd_other _ held waiting]
    exact ⟨named, extra, rfl⟩
  · rw [Engine.effected_trim counts body, sender] at decided
    obtain ⟨named, extra, held, waiting⟩ := w.trim_decision s.me i tag u
    have is : (w.trim s.me i tag u).2 = d := Option.some.inj decided
    rw [is] at named extra held waiting ⊢
    rw [Decision.atEnd_other _ held waiting]
    exact ⟨named, extra, rfl⟩
  · rw [Engine.effected_setcap counts body] at decided
    have is : (w.setcap s.me e.commit p u).2 = d := Option.some.inj decided
    rw [is]
    have set : d.outcome = .capacitySet ∧ d.slot = none := is ▸ ⟨rfl, rfl⟩
    rw [Decision.atEnd_other _ (by rw [set.1]; decide) (by rw [set.1]; decide)]
    exact ⟨set.2, set.1, rfl⟩
  · rw [s.engine.effected_audit s.me e counts body] at decided
    cases decided
    exact ⟨rfl, rfl, rfl⟩

end Sys2Proof.Machine
end

section
/-!
PROOFS. The victims of a SETCAP (R43): their order, and those that the loop takes.
-/
namespace Sys2Proof.Machine

/-! ### The order of the victims -/

/-- The order of the victims in numbers: class, age of the held-stamp, slot. -/
theorem victimAhead_iff (now : CommitNo) (x y : SlotNo × Claim) : victimAhead now x y = true ↔
    x.2.cls.val < y.2.cls.val ∨ x.2.cls.val = y.2.cls.val ∧
      ((age now (heldStampField x.2)).toNat < (age now (heldStampField y.2)).toNat ∨
        (age now (heldStampField x.2)).toNat = (age now (heldStampField y.2)).toNat ∧
          y.1.val < x.1.val) := by
  simp [victimAhead, Fin.ext_iff, BitVec.toNat_eq]

theorem victimAhead_trans (now : CommitNo) (x y z : SlotNo × Claim) (xy : victimAhead now x y = true)
    (yz : victimAhead now y z = true) : victimAhead now x z = true := by
  rw [victimAhead_iff] at *
  omega

/-- Two claims in different slots are ordered. -/
theorem victimAhead_total (now : CommitNo) (x y : SlotNo × Claim) (slots : x.1 ≠ y.1) :
    victimAhead now x y = true ∨ victimAhead now y x = true := by
  rw [victimAhead_iff, victimAhead_iff]
  have := Fin.val_ne_of_ne slots
  omega

theorem victimAhead_irrefl (now : CommitNo) (x : SlotNo × Claim) : ¬ victimAhead now x x = true := by
  rw [victimAhead_iff]
  omega

theorem victimAhead_asymm (now : CommitNo) (x y : SlotNo × Claim) (xy : victimAhead now x y = true) :
    victimAhead now y x = false :=
  Bool.eq_false_iff.mpr fun yx => victimAhead_irrefl now x (victimAhead_trans now x y x xy yx)

/-! ### The victim line -/

theorem victimLine_perm (now : CommitNo) (slots : Vector (Option Claim) 64) (p : PoolNo) :
    (victimLine now slots p).Perm (claimsOf slots p .held) := orderBy_perm _ _

theorem victimLine_pairwise (now : CommitNo) (slots : Vector (Option Claim) 64) (p : PoolNo) :
    (victimLine now slots p).Pairwise fun x y => victimAhead now x y = true :=
  orderBy_pairwise _ _
    ((claimsOf_ascending slots p .held).imp fun less => victimAhead_total now _ _ (Fin.ne_of_lt less))
    (victimAhead_trans now)

/-- No slot stands twice in the victim line. -/
theorem victimLine_slots (now : CommitNo) (slots : Vector (Option Claim) 64) (p : PoolNo) :
    (victimLine now slots p).Pairwise fun x y => x.1 ≠ y.1 :=
  ((victimLine_perm now slots p).pairwise_iff fun h => h.symm).mpr
    ((claimsOf_ascending slots p .held).imp Fin.ne_of_lt)

/-- An ordered list of the HELD claims of a pool is its victim line. -/
theorem victimLine_unique (now : CommitNo) (slots : Vector (Option Claim) 64) (p : PoolNo)
    (l : List (SlotNo × Claim)) (ordered : l.Pairwise fun x y => victimAhead now x y = true)
    (held : ∀ i c, (i, c) ∈ l ↔ slots[i] = some c ∧ c.pool = p ∧ c.state = .held) :
    victimLine now slots p = l := by
  have : Std.Irrefl fun x y => victimAhead now x y = true := ⟨victimAhead_irrefl now⟩
  have : Std.Antisymm fun x y => victimAhead now x y = true :=
    ⟨fun x y xy yx => by rw [victimAhead_asymm now x y xy] at yx; cases yx⟩
  exact (victimLine_pairwise now slots p).eq_of_mem_iff ordered fun ⟨i, c⟩ =>
    (mem_victimLine now slots p i c).trans (held i c).symm

/-- The head of the victim line taken leaves the rest of the line. -/
theorem victimLine_put (now : CommitNo) (slots : Vector (Option Claim) 64) (p : PoolNo)
    (i : SlotNo) (c : Claim) (x : Option Claim) (rest : List (SlotNo × Claim))
    (line : victimLine now slots p = (i, c) :: rest) (taken : ∀ d, x = some d → d.state ≠ .held) :
    victimLine now (put slots i x) p = rest := by
  have ordered := victimLine_pairwise now slots p
  have different := victimLine_slots now slots p
  rw [line] at ordered different
  obtain ⟨-, ordered⟩ := List.pairwise_cons.mp ordered
  obtain ⟨different, -⟩ := List.pairwise_cons.mp different
  refine victimLine_unique now _ p rest ordered fun j b => ?_
  have before := mem_victimLine now slots p j b
  rw [line, List.mem_cons] at before
  by_cases same : i = j
  · subst same
    rw [getElem_put_same]
    exact ⟨fun m => absurd rfl (different (i, b) m), fun ⟨new, _, held⟩ => absurd held (taken b new)⟩
  · rw [getElem_put_other _ _ _ _ same, ← before]
    exact ⟨Or.inr, fun m => m.resolve_left fun eq => same (congrArg Prod.fst eq).symm⟩

/-- The units of the claims listed. -/
def unitsIn (l : List (SlotNo × Claim)) : Nat := (l.map fun x => x.2.units.toNat).sum

theorem unitsIn_cons (x : SlotNo × Claim) (l : List (SlotNo × Claim)) :
    unitsIn (x :: l) = x.2.units.toNat + unitsIn l := List.sum_cons

theorem unitsIn_filter_le (q : SlotNo × Claim → Bool) (l : List (SlotNo × Claim)) :
    unitsIn (l.filter q) ≤ unitsIn l :=
  ((List.filter_sublist (p := q) (l := l)).map _).sum_le_sum fun _ _ => Nat.zero_le _

/-- Granted is what the victim line holds. -/
theorem Work.counted.granted_victimLine {w : Work} (h : w.counted) (now : CommitNo) (p : PoolNo) :
    w.pools[p].granted.toNat = unitsIn (victimLine now w.slots p) := by
  rw [(h p).granted, ← sum_claimsOf]
  exact ((victimLine_perm now w.slots p).map _).sum_eq.symm

/-! ### The claims that the loop takes -/

/-- The front part of a line that is taken: a claim is, while it and those behind it exceed the capacity. -/
def victims (capacity : Nat) : List (SlotNo × Claim) → List (SlotNo × Claim)
  | [] => []
  | x :: rest => if capacity < unitsIn (x :: rest) then x :: victims capacity rest else []

theorem victims_sublist (capacity : Nat) (l : List (SlotNo × Claim)) :
    (victims capacity l).Sublist l := by
  induction l with
  | nil => exact List.Sublist.refl _
  | cons x l ih =>
    unfold victims
    split
    · exact ih.cons_cons x
    · exact List.nil_sublist _

/-- A claim of an ordered line is taken exactly when it and the claims that do not stand ahead of it exceed
the capacity (R43). -/
theorem mem_victims (now : CommitNo) (capacity : Nat) (l : List (SlotNo × Claim))
    (ordered : l.Pairwise fun x y => victimAhead now x y = true) (x : SlotNo × Claim) (m : x ∈ l) :
    x ∈ victims capacity l ↔ capacity < unitsIn (l.filter fun y => !victimAhead now y x) := by
  induction l with
  | nil => cases m
  | cons y l ih =>
    obtain ⟨first, ordered⟩ := List.pairwise_cons.mp ordered
    unfold victims
    rcases List.mem_cons.mp m with rfl | m
    · have all : (x :: l).filter (fun y => !victimAhead now y x) = x :: l := by
        rw [List.filter_eq_self]
        intro z mz
        rcases List.mem_cons.mp mz with rfl | mz
        · simpa using victimAhead_irrefl now z
        · rw [victimAhead_asymm now x z (first z mz)]; rfl
      rw [all]
      split <;> simp_all
    · have ahead := first x m
      have behind : (y :: l).filter (fun z => !victimAhead now z x) =
          l.filter fun z => !victimAhead now z x := List.filter_cons_of_neg (by simp [ahead])
      have other : x ≠ y := by
        rintro rfl; exact victimAhead_irrefl now x ahead
      rw [behind, ← ih ordered m]
      split
      · rw [List.mem_cons, or_iff_right other]
      · rename_i fits
        rw [ih ordered m]
        have := unitsIn_filter_le (fun z => !victimAhead now z x) l
        rw [unitsIn_cons] at fits
        simp only [List.not_mem_nil, false_iff]
        omega

/-! ### One victim -/

/-- What stands in the slot of a victim. -/
def Claim.afterVictim (capacity : BitVec 16) (c : Claim) : Option Claim :=
  if capacity.toNat < c.units.toNat then none else some c.bump

/-- What the notice of a victim says. -/
def Claim.victimCause (capacity : BitVec 16) (c : Claim) : Cause :=
  if capacity.toNat < c.units.toNat then .ejected else .bumped

theorem Claim.afterVictim_state {capacity : BitVec 16} {c d : Claim}
    (h : c.afterVictim capacity = some d) : d.state ≠ .held := by
  unfold Claim.afterVictim at h
  split at h
  · cases h
  · cases h; simp [Claim.bump]

section
variable (me : StationNo) (p : PoolNo) (capacity : BitVec 16)

theorem Work.takeVictim_marks (i : SlotNo) (c : Claim) (w : Work) :
    (w.takeVictim me p capacity i c).marks =
      if c.holder = me then put w.marks i (some (c.victimCause capacity)) else w.marks := by
  unfold Work.takeVictim Claim.victimCause
  split <;> exact Work.mark_marks _ _ _ _ _

theorem Work.takeVictim_touched (i : SlotNo) (c : Claim) (w : Work) :
    (w.takeVictim me p capacity i c).touched = w.touched := by
  unfold Work.takeVictim
  split <;> exact Work.mark_touched _ _ _ _ _

/-! ### The loop as the victims taken one by one -/

/-- The claims of a list taken as victims, in order. -/
def Work.takeAll (l : List (SlotNo × Claim)) (w : Work) : Work :=
  l.foldl (fun v x => v.takeVictim me p capacity x.1 x.2) w

/-- The loop takes the victims of its line, given a round for each HELD claim, and counts them. -/
theorem Work.shed_eq (now : CommitNo) (fuel : Nat) (w : Work) (bumped ejected : Nat) (h : w.counted)
    (rounds : (victimLine now w.slots p).length ≤ fuel) :
    Work.shed me now p capacity fuel (w, bumped, ejected) =
      (w.takeAll me p capacity (victims capacity.toNat (victimLine now w.slots p)),
        bumped + (victims capacity.toNat (victimLine now w.slots p)).countP
          (fun x => !decide (capacity.toNat < x.2.units.toNat)),
        ejected + (victims capacity.toNat (victimLine now w.slots p)).countP
          (fun x => decide (capacity.toNat < x.2.units.toNat))) := by
  have granted := h.granted_victimLine now p
  induction fuel generalizing w bumped ejected with
  | zero =>
    rw [List.length_eq_zero_iff.mp (Nat.le_zero.mp rounds)]
    rfl
  | succ fuel ih =>
    unfold Work.shed
    rw [granted]
    rcases line : victimLine now w.slots p with _ | ⟨⟨i, c⟩, rest⟩
    · simp [victims, Work.takeAll]
    · by_cases room : unitsIn ((i, c) :: rest) ≤ capacity.toNat
      · rw [if_pos room, victims, if_neg (not_lt.mpr room)]
        rfl
      · obtain ⟨slot, pool, held⟩ := (mem_victimLine now w.slots p i c).mp (by rw [line]; simp)
        have counts := h.takeVictim me p capacity i c slot pool held
        have next : victimLine now (w.takeVictim me p capacity i c).slots p = rest := by
          rw [Work.takeVictim_slots]
          exact victimLine_put now w.slots p i c _ rest line fun d => Claim.afterVictim_state
        have go := fun b e => ih (w.takeVictim me p capacity i c) b e counts
          (by rw [next]; rw [line] at rounds; exact Nat.le_of_succ_le_succ rounds)
          (counts.granted_victimLine now p)
        rw [next] at go
        rw [if_neg room, victims, if_pos (not_le.mp room), List.countP_cons, List.countP_cons]
        by_cases large : capacity.toNat < c.units.toNat
        · simp only [large, if_true, go, decide_true, Bool.not_true, Bool.false_eq_true, if_false]
          simp only [Work.takeAll, List.foldl_cons, Prod.mk.injEq, true_and]
          omega
        · simp only [large, if_false, go, decide_false, Bool.not_false, if_true, Bool.false_eq_true]
          simp only [Work.takeAll, List.foldl_cons, Prod.mk.injEq, true_and]
          omega

/-- What taking a list of victims does to slots and marks. -/
structure Work.Taken (l : List (SlotNo × Claim)) (w v : Work) : Prop where
  taken : ∀ x ∈ l, v.slots[x.1] = x.2.afterVictim capacity ∧
    v.marks[x.1] = if x.2.holder = me then some (x.2.victimCause capacity) else w.marks[x.1]
  others : ∀ i : SlotNo, (∀ x ∈ l, x.1 ≠ i) → v.slots[i] = w.slots[i] ∧ v.marks[i] = w.marks[i]

theorem Work.takeAll_taken (l : List (SlotNo × Claim)) (different : l.Pairwise fun x y => x.1 ≠ y.1)
    (w : Work) : Work.Taken me capacity l w (w.takeAll me p capacity l) := by
  induction l generalizing w with
  | nil => exact ⟨fun _ m => (nomatch m), fun _ _ => ⟨rfl, rfl⟩⟩
  | cons y l ih =>
    obtain ⟨apart, different⟩ := List.pairwise_cons.mp different
    obtain ⟨taken, others⟩ := ih different (w.takeVictim me p capacity y.1 y.2)
    have elsewhere : ∀ i : SlotNo, y.1 ≠ i →
        (w.takeVictim me p capacity y.1 y.2).slots[i] = w.slots[i] ∧
        (w.takeVictim me p capacity y.1 y.2).marks[i] = w.marks[i] := fun i other => by
      rw [Work.takeVictim_slots, Work.takeVictim_marks, getElem_put_other _ _ _ _ other]
      refine ⟨rfl, ?_⟩
      split
      · exact getElem_put_other _ _ _ _ other
      · rfl
    refine ⟨fun x m => ?_, fun i out => ?_⟩
    · rcases List.mem_cons.mp m with rfl | m
      · obtain ⟨slot, mark⟩ := others x.1 fun z mz => (apart z mz).symm
        refine ⟨slot.trans ?_, mark.trans ?_⟩
        · rw [Work.takeVictim_slots, getElem_put_same]; rfl
        · rw [Work.takeVictim_marks]
          split
          · exact getElem_put_same ..
          · rfl
      · obtain ⟨slot, mark⟩ := taken x m
        rw [(elsewhere x.1 (apart x m)).2] at mark
        exact ⟨slot, mark⟩
    · obtain ⟨slot, mark⟩ := others i fun x m => out x (List.mem_cons_of_mem _ m)
      obtain ⟨slot', mark'⟩ := elsewhere i (out y (List.mem_cons_self ..))
      exact ⟨slot.trans slot', mark.trans mark'⟩

end

/-! ### The whole SETCAP -/

section
variable (me : StationNo) (now : CommitNo) (p : PoolNo) (capacity : BitVec 16) (w : Work)

theorem Work.setCapacity_slot (i : SlotNo) : (w.setCapacity me p capacity).1.slots[i] =
    if ejectsWaiter w.slots p capacity i then none else w.slots[i] := getElem_tab _ i

theorem Work.setCapacity_mark (i : SlotNo) : (w.setCapacity me p capacity).1.marks[i] =
    if ejectsWaiter w.slots p capacity i && w.slots[i].any (fun c => c.holder == me)
    then some .ejected else w.marks[i] := getElem_tab _ i

theorem ejectsWaiter_some {slots : Vector (Option Claim) 64} {i : SlotNo} {c : Claim}
    (slot : slots[i] = some c) : ejectsWaiter slots p capacity i = true ↔
      c.pool = p ∧ c.state = .waiting ∧ capacity.toNat < c.units.toNat := by
  simp [ejectsWaiter, slot, and_assoc]

theorem ejectsWaiter_none {slots : Vector (Option Claim) 64} {i : SlotNo} (slot : slots[i] = none) :
    ejectsWaiter slots p capacity i = false := by simp [ejectsWaiter, slot]

/-- The ejection of waiters leaves the victim line. -/
theorem victimLine_setCapacity :
    victimLine now (w.setCapacity me p capacity).1.slots p = victimLine now w.slots p := by
  refine victimLine_unique now _ p _ (victimLine_pairwise now w.slots p) fun i c => ?_
  rw [mem_victimLine, Work.setCapacity_slot]
  refine ⟨fun ⟨slot, pool, held⟩ => ⟨?_, pool, held⟩, fun ⟨slot, pool, held⟩ => ⟨?_, pool, held⟩⟩
  · rw [if_neg]
    · exact slot
    · rw [ejectsWaiter_some p capacity slot, held]
      rintro ⟨-, waits, -⟩
      cases waits
  · split at slot
    · cases slot
    · exact slot

/-- The victims of a SETCAP (R43). -/
def Work.victimsOf : List (SlotNo × Claim) := victims capacity.toNat (victimLine now w.slots p)

/-- The units of a claim and of the HELD claims of the pool that do not stand ahead of it. -/
def Work.behind (j : SlotNo) (c : Claim) : Nat :=
  unitsIn ((claimsOf w.slots p .held).filter fun x => !victimAhead now x (j, c))

theorem Work.mem_victimsOf (i : SlotNo) (c : Claim) : (i, c) ∈ w.victimsOf now p capacity ↔
    w.slots[i] = some c ∧ c.pool = p ∧ c.state = .held ∧
      capacity.toNat < w.behind now p i c := by
  have chosen : (i, c) ∈ victimLine now w.slots p → ((i, c) ∈ w.victimsOf now p capacity ↔
      capacity.toNat < w.behind now p i c) := fun m => by
    rw [Work.victimsOf, mem_victims now _ _ (victimLine_pairwise now w.slots p) _ m, Work.behind,
      unitsIn, unitsIn, (((victimLine_perm now w.slots p).filter _).map _).sum_eq]
  constructor
  · intro m
    have inLine := (victims_sublist _ _).subset m
    obtain ⟨slot, pool, held⟩ := (mem_victimLine now w.slots p i c).mp inLine
    exact ⟨slot, pool, held, (chosen inLine).mp m⟩
  · rintro ⟨slot, pool, held, exceeds⟩
    exact (chosen ((mem_victimLine now w.slots p i c).mpr ⟨slot, pool, held⟩)).mpr exceeds

/-- No slot stands twice among the victims. -/
theorem Work.victimsOf_slots :
    (w.victimsOf now p capacity).Pairwise fun x y => x.1 ≠ y.1 :=
  (victimLine_slots now w.slots p).sublist (victims_sublist _ _)

/-- A HELD claim that exceeds the capacity alone exceeds it with those behind it. -/
theorem Work.units_le_behind {i : SlotNo} {c : Claim} (slot : w.slots[i] = some c) (pool : c.pool = p)
    (held : c.state = .held) : c.units.toNat ≤ w.behind now p i c := by
  refine List.le_sum_of_mem (List.mem_map.mpr ⟨(i, c), List.mem_filter.mpr ⟨?_, ?_⟩, rfl⟩)
  · exact (mem_claimsOf w.slots p .held i c).mpr ⟨slot, pool, held⟩
  · simpa using victimAhead_irrefl now (i, c)

/-- A SETCAP sets the capacity, takes its victims, and touches the pool. -/
theorem Work.agrees.setcap_eq {w : Work} (h : w.agrees) : w.setcap me now p capacity =
    ((((w.setCapacity me p capacity).1.takeAll me p capacity (w.victimsOf now p capacity)).touch p),
      ⟨.capacitySet, none, .counts
        ((w.victimsOf now p capacity).countP fun x => !decide (capacity.toNat < x.2.units.toNat))
        (countOver 64 (ejectsWaiter w.slots p capacity) +
          (w.victimsOf now p capacity).countP fun x => decide (capacity.toNat < x.2.units.toNat))⟩) := by
  have rounds : (victimLine now (w.setCapacity me p capacity).1.slots p).length ≤ 64 := by
    rw [(victimLine_perm now _ p).length_eq, length_claimsOf]
    exact total_oneEach_le _ _ _
  have loop := Work.shed_eq me p capacity now 64 (w.setCapacity me p capacity).1 0
    (w.setCapacity me p capacity).2 (h.counted.setCapacity me p capacity) rounds
  rw [victimLine_setCapacity, Nat.zero_add] at loop
  unfold Work.setcap
  dsimp only
  rw [loop]
  rfl

/-! ### Slot by slot -/

variable {me now p capacity w}

theorem Work.agrees.setcap_taken (h : w.agrees) :
    Work.Taken me capacity (w.victimsOf now p capacity) (w.setCapacity me p capacity).1
      (w.setcap me now p capacity).1 := by
  obtain ⟨taken, others⟩ := Work.takeAll_taken me p capacity _ (w.victimsOf_slots now p capacity)
    (w.setCapacity me p capacity).1
  rw [h.setcap_eq]
  exact ⟨taken, others⟩

theorem Work.agrees.setcap_victim (h : w.agrees) {i : SlotNo} {c : Claim}
    (victim : (i, c) ∈ w.victimsOf now p capacity) :
    (w.setcap me now p capacity).1.slots[i] = c.afterVictim capacity ∧
    (w.setcap me now p capacity).1.marks[i] =
      if c.holder = me then some (c.victimCause capacity) else w.marks[i] := by
  obtain ⟨slot, mark⟩ := (h.setcap_taken (me := me)).taken _ victim
  obtain ⟨stood, -, held, -⟩ := (w.mem_victimsOf now p capacity i c).mp victim
  have keeps : ejectsWaiter w.slots p capacity i = false := by
    rw [Bool.eq_false_iff, ne_eq, ejectsWaiter_some p capacity stood, held]
    rintro ⟨-, waits, -⟩
    cases waits
  rw [Work.setCapacity_mark, keeps] at mark
  exact ⟨slot, mark⟩

/-- A slot without a victim has what the first phase leaves in it. -/
theorem Work.agrees.setcap_noVictim (h : w.agrees) {i : SlotNo}
    (noVictim : ∀ c, (i, c) ∉ w.victimsOf now p capacity) :
    (w.setcap me now p capacity).1.slots[i] = (w.setCapacity me p capacity).1.slots[i] ∧
    (w.setcap me now p capacity).1.marks[i] = (w.setCapacity me p capacity).1.marks[i] :=
  (h.setcap_taken (me := me)).others i fun ⟨_, c⟩ m same => noVictim c (same ▸ m)

theorem Work.agrees.setcap_waiter (h : w.agrees) {i : SlotNo} {c : Claim} (slot : w.slots[i] = some c)
    (pool : c.pool = p) (waits : c.state = .waiting) (large : capacity.toNat < c.units.toNat) :
    (w.setcap me now p capacity).1.slots[i] = none ∧
    (w.setcap me now p capacity).1.marks[i] =
      if c.holder = me then some .ejected else w.marks[i] := by
  have ejected := (ejectsWaiter_some p capacity slot).mpr ⟨pool, waits, large⟩
  obtain ⟨slot', mark'⟩ := h.setcap_noVictim (me := me) (now := now) (capacity := capacity) (p := p)
    (i := i) fun d m => by
      obtain ⟨stood, -, held, -⟩ := (w.mem_victimsOf now p capacity i d).mp m
      cases slot.symm.trans stood
      cases waits.symm.trans held
  rw [slot', mark', Work.setCapacity_slot, Work.setCapacity_mark, ejected, slot]
  exact ⟨rfl, by simp⟩

/-- A slot with neither a victim nor an ejected waiter stays. -/
theorem Work.agrees.setcap_stays (h : w.agrees) {i : SlotNo}
    (noVictim : ∀ c, (i, c) ∉ w.victimsOf now p capacity)
    (keeps : ejectsWaiter w.slots p capacity i = false) :
    (w.setcap me now p capacity).1.slots[i] = w.slots[i] ∧
    (w.setcap me now p capacity).1.marks[i] = w.marks[i] := by
  obtain ⟨slot, mark⟩ := h.setcap_noVictim (me := me) noVictim
  rw [slot, mark, Work.setCapacity_slot, Work.setCapacity_mark, keeps]
  exact ⟨rfl, rfl⟩

theorem Work.agrees.setcap_free (h : w.agrees) {i : SlotNo} (free : w.slots[i] = none) :
    (w.setcap me now p capacity).1.slots[i] = none ∧
    (w.setcap me now p capacity).1.marks[i] = w.marks[i] := by
  rw [← free]
  refine h.setcap_stays (fun c m => ?_) (ejectsWaiter_none p capacity free)
  obtain ⟨slot, -⟩ := (w.mem_victimsOf now p capacity i c).mp m
  cases free.symm.trans slot

/-- The claims that a SETCAP leaves: those of other pools, the waiters that fit, and the HELD claims
that fit with those behind them. -/
theorem Work.agrees.setcap_claim_stays (h : w.agrees) {i : SlotNo} {c : Claim}
    (slot : w.slots[i] = some c)
    (fits : c.pool ≠ p ∨ c.state = .waiting ∧ c.units.toNat ≤ capacity.toNat ∨
      c.state = .held ∧ w.behind now p i c ≤ capacity.toNat) :
    (w.setcap me now p capacity).1.slots[i] = some c ∧
    (w.setcap me now p capacity).1.marks[i] = w.marks[i] := by
  rw [← slot]
  refine h.setcap_stays (fun d m => ?_) ?_
  · obtain ⟨stood, pool, held, exceeds⟩ := (w.mem_victimsOf now p capacity i d).mp m
    cases slot.symm.trans stood
    rcases fits with other | ⟨waits, -⟩ | ⟨-, within⟩
    · exact other pool
    · cases waits.symm.trans held
    · omega
  · rw [Bool.eq_false_iff, ne_eq, ejectsWaiter_some p capacity slot]
    rintro ⟨pool, waits, large⟩
    rcases fits with other | ⟨-, within⟩ | ⟨held, -⟩
    · exact other pool
    · omega
    · cases waits.symm.trans held

/-- A claim of the pool that exceeds the capacity is ejected, waiting or HELD. -/
theorem Work.agrees.setcap_ejects (h : w.agrees) {i : SlotNo} {c : Claim} (slot : w.slots[i] = some c)
    (pool : c.pool = p) (large : capacity.toNat < c.units.toNat) :
    (w.setcap me now p capacity).1.slots[i] = none ∧
    (w.setcap me now p capacity).1.marks[i] =
      if c.holder = me then some .ejected else w.marks[i] := by
  rcases state : c.state with _ | _
  case held =>
    have victim := (w.mem_victimsOf now p capacity i c).mpr
      ⟨slot, pool, state, large.trans_le (w.units_le_behind now p slot pool state)⟩
    have after := h.setcap_victim (me := me) victim
    rw [Claim.afterVictim, Claim.victimCause, if_pos large, if_pos large] at after
    exact after
  case waiting => exact h.setcap_waiter slot pool state large

theorem Work.agrees.setcap_bumps (h : w.agrees) {i : SlotNo} {c : Claim} (slot : w.slots[i] = some c)
    (pool : c.pool = p) (held : c.state = .held) (exceeds : capacity.toNat < w.behind now p i c)
    (small : c.units.toNat ≤ capacity.toNat) :
    (w.setcap me now p capacity).1.slots[i] = some c.bump ∧
    (w.setcap me now p capacity).1.marks[i] =
      if c.holder = me then some .bumped else w.marks[i] := by
  have after := h.setcap_victim (me := me)
    ((w.mem_victimsOf now p capacity i c).mpr ⟨slot, pool, held, exceeds⟩)
  rw [Claim.afterVictim, Claim.victimCause, if_neg (not_lt.mpr small), if_neg (not_lt.mpr small)]
    at after
  exact after

/-- A claim of the pool that is within the capacity stays, or is bumped. -/
theorem Work.agrees.setcap_keeps (h : w.agrees) {i : SlotNo} {c : Claim} (slot : w.slots[i] = some c)
    (pool : c.pool = p) (small : c.units.toNat ≤ capacity.toNat) :
    (w.setcap me now p capacity).1.slots[i] = some c ∨
    (w.setcap me now p capacity).1.slots[i] = some c.bump := by
  rcases state : c.state with _ | _
  case held =>
    rcases le_or_gt (w.behind now p i c) capacity.toNat with within | exceeds
    · exact Or.inl (h.setcap_claim_stays slot (Or.inr (Or.inr ⟨state, within⟩))).1
    · exact Or.inr (h.setcap_bumps slot pool state exceeds small).1
  case waiting => exact Or.inl (h.setcap_claim_stays slot (Or.inr (Or.inl ⟨state, small⟩))).1

/-- A claim of the pool that stands after a SETCAP is within the capacity. -/
theorem Work.agrees.setcap_fits (h : w.agrees) {i : SlotNo} {d : Claim}
    (slot : (w.setcap me now p capacity).1.slots[i] = some d) (pool : d.pool = p) :
    d.units.toNat ≤ capacity.toNat := by
  rcases stood : w.slots[i] with _ | c
  · cases (h.setcap_free stood).1.symm.trans slot
  · by_cases mine : c.pool = p
    · rcases lt_or_ge capacity.toNat c.units.toNat with large | small
      · cases (h.setcap_ejects stood mine large).1.symm.trans slot
      · rcases h.setcap_keeps stood mine small with stays | bumped
        · cases stays.symm.trans slot
          exact small
        · cases bumped.symm.trans slot
          exact small
    · cases (h.setcap_claim_stays stood (Or.inl mine)).1.symm.trans slot
      exact absurd pool mine

/-! ### The counts of the completion (R44) -/

/-- A count of numbers is the length of a list of them. -/
theorem countOver_eq_length {n : Nat} (f : Fin n → Bool) (l : List (Fin n)) (once : l.Nodup)
    (lists : ∀ i, i ∈ l ↔ f i = true) : countOver n f = l.length := by
  rw [countOver, List.countP_eq_length_filter]
  refine List.Perm.length_eq ((List.perm_ext_iff_of_nodup ((upTo_nodup n).filter _) once).mpr
    fun i => ?_)
  rw [List.mem_filter, lists]
  exact and_iff_right (mem_upTo i)

/-- The slots of the victims of a kind. -/
def Work.victimSlots (now : CommitNo) (p : PoolNo) (capacity : BitVec 16) (w : Work)
    (q : SlotNo × Claim → Bool) : List SlotNo :=
  ((w.victimsOf now p capacity).filter q).map Prod.fst

theorem Work.victimSlots_nodup (q : SlotNo × Claim → Bool) :
    (w.victimSlots now p capacity q).Nodup :=
  List.pairwise_map.mpr ((w.victimsOf_slots now p capacity).sublist List.filter_sublist)

theorem Work.length_victimSlots (q : SlotNo × Claim → Bool) :
    (w.victimSlots now p capacity q).length = (w.victimsOf now p capacity).countP q := by
  rw [Work.victimSlots, List.length_map, List.countP_eq_length_filter]

theorem Work.mem_victimSlots (q : SlotNo × Claim → Bool) (i : SlotNo) :
    i ∈ w.victimSlots now p capacity q ↔
      ∃ c, (i, c) ∈ w.victimsOf now p capacity ∧ q (i, c) = true := by
  simp [Work.victimSlots]

/-- The bumped are the victims within the capacity. -/
theorem Work.agrees.setcap_bumped (h : w.agrees) :
    (countOver 64 fun i => w.slots[i].any (fun c => c.pool == p && c.state == .held) &&
      (w.setcap me now p capacity).1.slots[i].any (fun c => c.state == .waiting)) =
    (w.victimsOf now p capacity).countP fun x => !decide (capacity.toNat < x.2.units.toNat) := by
  rw [← Work.length_victimSlots]
  refine countOver_eq_length _ _ (Work.victimSlots_nodup _) fun i => ?_
  rw [Work.mem_victimSlots, Bool.and_eq_true]
  constructor
  · rintro ⟨c, victim, small⟩
    have after := (h.setcap_victim (me := me) victim).1
    obtain ⟨slot, pool, held, -⟩ := (w.mem_victimsOf now p capacity i c).mp victim
    rw [Claim.afterVictim, if_neg (by simpa using small)] at after
    simp [slot, pool, held, after, Claim.bump]
  · rintro ⟨held, waits⟩
    rcases slot : w.slots[i] with _ | c
    · simp [slot] at held
    · obtain ⟨pool, held⟩ : c.pool = p ∧ c.state = .held := by simpa [slot] using held
      have victim : (i, c) ∈ w.victimsOf now p capacity := by
        refine (w.mem_victimsOf now p capacity i c).mpr ⟨slot, pool, held, ?_⟩
        by_contra! within
        rw [(h.setcap_claim_stays slot (Or.inr (Or.inr ⟨held, within⟩))).1] at waits
        simp [held] at waits
      refine ⟨c, victim, ?_⟩
      by_contra small
      rw [(h.setcap_ejects slot pool (by simpa using small)).1] at waits
      cases waits

/-- The ejected are the waiters of the first phase and the victims that exceed the capacity. -/
theorem Work.agrees.setcap_ejected (h : w.agrees) :
    (countOver 64 fun i => w.slots[i].any (fun c => c.pool == p) &&
      (w.setcap me now p capacity).1.slots[i].isNone) =
    countOver 64 (ejectsWaiter w.slots p capacity) +
      (w.victimsOf now p capacity).countP fun x => decide (capacity.toNat < x.2.units.toNat) := by
  rw [← Work.length_victimSlots, countOver, countOver, List.countP_eq_length_filter (l := upTo 64)
    (p := ejectsWaiter w.slots p capacity), ← List.length_append]
  refine countOver_eq_length _ _ (((upTo_nodup 64).filter _).append (Work.victimSlots_nodup _) ?_)
    fun i => ?_
  · intro i waiter victim
    obtain ⟨c, victim, -⟩ := (Work.mem_victimSlots _ i).mp victim
    obtain ⟨slot, -, held, -⟩ := (w.mem_victimsOf now p capacity i c).mp victim
    obtain ⟨-, waits, -⟩ := (ejectsWaiter_some p capacity slot).mp (List.mem_filter.mp waiter).2
    cases waits.symm.trans held
  · rw [List.mem_append, List.mem_filter, Work.mem_victimSlots, and_iff_right (mem_upTo i),
      Bool.and_eq_true]
    rcases slot : w.slots[i] with _ | c
    · have noVictim : ∀ c, (i, c) ∉ w.victimsOf now p capacity := fun c m => by
        cases slot.symm.trans ((w.mem_victimsOf now p capacity i c).mp m).1
      simp [ejectsWaiter_none p capacity slot, noVictim]
    · rw [ejectsWaiter_some p capacity slot]
      constructor
      · rintro (⟨pool, -, large⟩ | ⟨d, victim, large⟩)
        · simp [pool, (h.setcap_ejects (me := me) (now := now) slot pool large).1]
        · obtain ⟨stood, pool, -⟩ := (w.mem_victimsOf now p capacity i d).mp victim
          cases slot.symm.trans stood
          simp [pool, (h.setcap_ejects (me := me) (now := now) slot pool (by simpa using large)).1]
      · rintro ⟨pool, gone⟩
        have pool : c.pool = p := by simpa using pool
        have large : capacity.toNat < c.units.toNat := by
          by_contra! small
          rcases h.setcap_keeps (me := me) (now := now) slot pool small with stays | bumped
          · rw [stays] at gone
            cases gone
          · rw [bumped] at gone
            cases gone
        rcases state : c.state with _ | _
        case waiting => exact Or.inl ⟨pool, rfl, large⟩
        case held =>
          exact Or.inr ⟨c, (w.mem_victimsOf now p capacity i c).mpr ⟨slot, pool, state,
            large.trans_le (w.units_le_behind now p slot pool state)⟩, decide_eq_true large⟩

/-! ### The records of the pools -/

/-- What a SETCAP under way keeps, besides what `Work.Shedding` says: the admission-due flag of the pool and
the pools touched. -/
structure Work.Lowering (p : PoolNo) (capacity : BitVec 16) (v before : Work) : Prop where
  shedding : v.Shedding p capacity before
  due : v.pools[p].due = before.pools[p].due
  touched : v.touched = before.touched

theorem Work.agrees.lowering (h : w.agrees) :
    (w.setCapacity me p capacity).1.Lowering p capacity w := by
  refine ⟨⟨h.counted.setCapacity me p capacity, ?_, fun q other => ?_⟩, ?_, rfl⟩
  · exact congrArg Pool.capacity (getElem_put_same ..)
  · exact getElem_put_other _ _ _ _ other.symm
  · exact (congrArg Pool.due (getElem_put_same ..)).trans rfl

theorem Work.Lowering.takeVictim {v before : Work} (h : v.Lowering p capacity before) (i : SlotNo)
    (c : Claim) (slot : v.slots[i] = some c) (pool : c.pool = p) (held : c.state = .held) :
    (v.takeVictim me p capacity i c).Lowering p capacity before := by
  obtain ⟨shedding, due, touched⟩ := h
  refine ⟨shedding.takeVictim me i c slot pool held, ?_, ?_⟩
  · rw [Work.takeVictim_pools me p capacity i c v pool held, getElem_put_same]
    exact due
  · rw [Work.takeVictim_touched]
    exact touched

/-- A SETCAP lowers the pool, and then touches it. -/
theorem Work.agrees.setcap_lowers (h : w.agrees) :
    ∃ v : Work, v.Lowering p capacity w ∧ (w.setcap me now p capacity).1 = v.touch p :=
  ⟨_, Work.shed_keeps (P := fun v => v.Lowering p capacity w) me now p capacity
    (fun _ i c lowered slot pool held => lowered.takeVictim i c slot pool held) 64 _ 0
    (w.setCapacity me p capacity).2 h.lowering, rfl⟩

end

/-- Settles O43: the loop takes the victims of its line, so each slot is decided by its own claim and those
behind it in the line. -/
theorem setcapShedsUntilGrantedFits : Obligations.SetcapShedsUntilGrantedFits := by
  refine ⟨fun now x y => ?_, ?_⟩
  · rw [victimAhead_iff]
    simp only [age, Fin.lt_def, Fin.ext_iff, BitVec.toNat_eq]
  · intro me now p capacity w agrees v behind
    have h : w.agrees := agrees
    obtain ⟨u, ⟨shedding, due, touched⟩, result⟩ :=
      h.setcap_lowers (me := me) (now := now) (p := p) (capacity := capacity)
    have set : v.pools[p].capacity = capacity := by
      rw [show v = u.touch p from result]
      exact shedding.capacity
    refine ⟨set, ?_, fun q => ?_, fun q other => ?_, ?_, fun i d slot pool => h.setcap_fits slot pool,
      fun i free => h.setcap_free free, fun i c slot => ⟨fun fits => h.setcap_claim_stays slot fits,
        fun pool large => h.setcap_ejects slot pool large,
        fun pool held exceeds small => h.setcap_bumps slot pool held exceeds small⟩, ?_⟩
    · rw [← set]
      exact (h.setcap me now p capacity).within p
    · rw [show v = u.touch p from result, ← touched]
      exact put_true_getElem u.touched p q
    · rw [show v = u.touch p from result]
      exact shedding.others q other
    · rw [show v = u.touch p from result]
      exact due
    · rw [h.setcap_bumped, h.setcap_ejected, h.setcap_eq]
end Sys2Proof.Machine
end

section
/-!
PROOFS. Resets, lock, quiet bus, and a bus unit out of step (R57 to R60, R110, R186): what reset leaves and
the registers then read, and the lines and pins of a station that takes no part.
-/
namespace Sys2Proof.Machine

/-! ### The lines of the bus (R56, R59, R62, R70) -/

section
variable {s : State}

/-- A bus unit that is not LOCKED or not in step asserts no REQ, PRI or THR (R26, R62, R63). -/
theorem State.requests_idle (idle : s.bus.locked = false ∨ s.bus.inStep = false) :
    s.reqDriven = false ∧ s.priDriven = false ∧ s.thrDriven = false := by
  have req : s.reqDriven = false := by rcases idle with h | h <;> simp [State.reqDriven, h]
  refine ⟨req, by simp [State.priDriven, req], ?_⟩
  rcases idle with h | h <;> simp [State.thrDriven, h]

/-- With no window in progress neither ACK nor FLT is driven (R70). -/
theorem State.window_idle (window : s.bus.window = none) :
    s.ackDriven = false ∧ s.fltDriven = false := by
  simp [State.ackDriven, State.fltDriven, window]

/-- With nothing in transfer the data path is released (R56). -/
theorem State.transfer_idle (transfer : s.bus.inTransfer = none) : s.dataDriven = false := by
  simp [State.dataDriven, transfer]

/-- Where it takes part in step, a bus unit out of step has nothing in progress (R57 to R59). -/
theorem State.takesPartInStep.idle (h : s.takesPartInStep)
    (idle : s.bus.locked = false ∨ s.bus.inStep = false) :
    s.bus.window = none ∧ s.bus.inTransfer = none ∧ s.bus.mrsDrive = false := by
  obtain ⟨-, window, transfer, mrs⟩ := h
  have off : ¬ (s.bus.locked = true ∧ s.bus.inStep = true) := by
    rintro ⟨locked, inStep⟩; rcases idle with h | h <;> simp_all
  exact ⟨by_contra fun h => off (window h), by_contra fun h => off (transfer h),
    by_contra fun h => off (mrs (by simpa using h))⟩

/-- Out of step the guards of rounds, transfers and violations are closed (R59). -/
theorem exec_outOfStep (idle : s.bus.locked = false ∨ s.bus.inStep = false) :
    (∀ req thr started, exec (.arbitrationRound req thr started) s = .next s) ∧
    (∀ rest mrs, exec (.transferEnd rest mrs) s = .next s) ∧
    (∀ started, exec (.recordStartWithoutRound started) s = .next s) ∧
    exec .ackOrFltOutOfWindow s = .next s := by
  have closed : (s.bus.locked && s.bus.inStep) = false := by rcases idle with h | h <;> simp [h]
  refine ⟨fun req thr started => ?_, fun rest mrs => ?_, fun started => ?_, ?_⟩
  · simp [exec, execArbitrationRound, State.round, closed]
  · simp only [exec, execTransferEnd, State.endTransfer, closed]
    split <;> rfl
  · simp [exec, execRecordStartWithoutRound, State.strayStart, closed]
  · simp [exec, execAckOrFltOutOfWindow, State.strayAck, State.detects, closed]

end

/-! ### What reset leaves (R60, Tables 14, 28, 39) -/

/-- The registers outside COMMIT and DIGEST as they read at reset (Table 39). -/
theorem peek_reset (a : Addr) (number : a ≠ 0x05#7) (other : ¬ (0x20#7 ≤ a ∧ a ≤ 0x27#7)) :
    State.peek a State.reset =
      if a = 0x00#7 then 0x4E#8 else if a = 0x01#7 then 0x5A#8 else if a = 0x02#7 then 0xC8#8
      else if a = 0x03#7 then 0x01#8 else if a = 0x10#7 then 0x08#8 else if a = 0x18#7 then 0x3F#8
      else if a = 0x19#7 then 0xFF#8 else if a = 0x1A#7 then 0xFF#8 else if a = 0x1B#7 then 0xF7#8
      else 0x00#8 := by
  revert a; decide +kernel

/-- The addresses of COMMIT and DIGEST. -/
theorem commitAddr_of_range : ∀ a : Addr, 0x20#7 ≤ a ∧ a ≤ 0x27#7 → ∃ k, a = commitAddr k := by decide

/-- A property of the eight offsets, one by one. -/
theorem offset_cases : ∀ k : BitVec 3, k = 0#3 ∨ k = 1#3 ∨ k = 2#3 ∨ k = 3#3 ∨ k = 4#3 ∨ k = 5#3 ∨
    k = 6#3 ∨ k = 7#3 := by decide

/-- COMMIT and DIGEST read the engine's two registers, byte by byte (Table 39). -/
theorem peek_commitAddr (k : BitVec 3) (s : State) : State.peek (commitAddr k) s =
    byteAt (bytes32 s.engine.commit ++ bytes32 s.engine.digest) k.toNat := by
  rcases offset_cases k with rfl | rfl | rfl | rfl | rfl | rfl | rfl | rfl <;> rfl

/-- Settles O3: the items by computation; the digest is never evaluated, its bytes stand as they are. -/
theorem resetLeavesTheSpecsValues : Obligations.ResetLeavesTheSpecsValues := by
  refine ⟨⟨⟨rfl, rfl, rfl, rfl, rfl, rfl, rfl, Roster.allAbsent_getElem, rfl, rfl, rfl, rfl, rfl, rfl⟩,
    ⟨emptyPools_getElem, emptySlots_getElem, rfl, rfl, rfl, rfl, rfl, rfl, fun i => ?_, rfl, rfl,
      fun x zero => List.eq_of_mem_replicate zero, rfl, rfl⟩,
    ⟨rfl, rfl, rfl, rfl, rfl, rfl, rfl, rfl⟩, ⟨rfl, rfl, rfl, rfl, rfl, rfl⟩,
    ⟨rfl, rfl, rfl, rfl, rfl, rfl, rfl⟩⟩, fun a number => ?_⟩
  · exact Vector.getElem_replicate i.isLt
  · by_cases range : 0x20#7 ≤ a ∧ a ≤ 0x27#7
    · obtain ⟨k, rfl⟩ := commitAddr_of_range a range
      rw [peek_commitAddr]
      show byteAt (bytes32 0#32 ++ bytes32 emptyDigest) k.toNat = _
      generalize emptyDigest = digest
      rcases offset_cases k with rfl | rfl | rfl | rfl | rfl | rfl | rfl | rfl <;> rfl
    · have outside : ∀ b : Addr, 0x20#7 ≤ b ∧ b ≤ 0x27#7 → a ≠ b := fun b inside same =>
        range (same ▸ inside)
      rw [peek_reset a number range, if_neg (outside 0x24#7 (by decide)),
        if_neg (outside 0x25#7 (by decide)), if_neg (outside 0x26#7 (by decide)),
        if_neg (outside 0x27#7 (by decide))]

/-- Settles O4: both resets give their state outright; REINIT's byte then moves the frame on. -/
theorem resetsTakeEveryBlockToItsResetValue : Obligations.ResetsTakeEveryBlockToItsResetValue := by
  refine ⟨fun s => ?_, fun s => ?_⟩
  · have silent : (0#16 &&& 0#16 != 0#16) = false := by decide
    exact ⟨_, rfl, rfl, rfl, rfl, rfl, rfl, silent, rfl, rfl, rfl, rfl, rfl, rfl, rfl⟩
  have write : exec .reinit s =
      .next (((s.reach false controlAddr).softReset).moved false controlAddr 0x00#8) := rfl
  have bus : (((s.reach false controlAddr).softReset).moved false controlAddr 0x00#8).bus =
      { State.reset.bus with
        station := s.bus.station, locked := s.bus.locked, priIn := s.bus.priIn } := by
    rw [State.moved_bus]
    show ({ BusUnit.reset with
      station := (s.reach false controlAddr).bus.station
      locked := (s.reach false controlAddr).bus.locked
      priIn := (s.reach false controlAddr).bus.priIn } : BusUnit) = _
    rw [State.reach_bus]; rfl
  obtain ⟨req, -, thr⟩ := State.requests_idle
    (s := ((s.reach false controlAddr).softReset).moved false controlAddr 0x00#8) (.inr rfl)
  exact ⟨_, write, bus, rfl, rfl, rfl, rfl, req, rfl, rfl, thr, rfl, rfl⟩

/-! ### Lock and quiet bus (R57, R59) -/

/-- LOCK_GAIN at a station that is not LOCKED (R57). -/
theorem exec_lockGain {s : State} (unlocked : s.bus.locked = false) :
    exec .lockGain s = .next (State.setEvent .lock { s with bus := { s.bus with
      locked := true, inStep := false, openList := [], inTransfer := none, window := none
      turn := Config.turnReset, restart := false } }) := by
  simp [exec, execLockGain, unlocked]

/-- QUIET_BUS at a LOCKED station that is not in step (R59). -/
theorem exec_quietBus {s : State} (locked : s.bus.locked = true) (inStep : s.bus.inStep = false) :
    exec .quietBus s = .next { s with bus := { s.bus with
      inStep := true, openList := [], inTransfer := none, window := none, restart := false } } := by
  simp [exec, execQuietBus, locked, inStep]

/-- Settles O6: each of the two writes the bus unit alone, LOCK_GAIN its flag besides. -/
theorem lockGainAndQuietBusStartTheBusUnit : Obligations.LockGainAndQuietBusStartTheBusUnit :=
  ⟨fun _ unlocked => ⟨_, exec_lockGain unlocked, rfl, rfl, rfl, rfl, rfl, rfl⟩,
    fun _ locked inStep => ⟨_, exec_quietBus locked inStep, rfl, rfl, rfl, rfl, rfl, rfl⟩⟩

/-! ### Pins (R186, Table 50) -/

/-- With every line of the bus unit released, INT is the one pin that may be low. -/
theorem State.pullsLow_idle (s : State) (req : s.reqDriven = false) (pri : s.priDriven = false)
    (thr : s.thrDriven = false) (ack : s.ackDriven = false) (flt : s.fltDriven = false)
    (data : s.dataDriven = false) (mrs : s.mrsDriven = false) (i : Nat) (pin : Pin)
    (other : pin ≠ .int) : s.pullsLow i pin = false := by
  cases pin with
  | int => exact absurd rfl other
  | req number => simp [State.pullsLow, req]
  | ack number => simp [State.pullsLow, ack]
  | pri => exact pri
  | thr => exact thr
  | flt => exact flt
  | mrs => exact mrs
  | frm => exact data
  | data bit => simp [State.pullsLow, State.drivenNibble, data]
  | _ => rfl

/-- What is pulled low is an open-drain pin, and no input. -/
theorem State.pullsLow_openDrain (i : Nat) (s : State) (pin : Pin) (low : s.pullsLow i pin = true) :
    pin.openDrain = true ∧ pin.input = false := by
  cases pin with
  | sid | reset | cs | sck | sdi | sdo | refclk => cases low
  | _ => exact ⟨rfl, rfl⟩

/-- Settles O8: the guards of R59 are closed out of step; the pins are read off their table. -/
theorem outOfStepTakesNoPart : Obligations.OutOfStepTakesNoPart := by
  refine ⟨fun s idle => ?_, fun i s => ?_, fun i pin stations => ?_, fun bit b k => ?_,
    fun k s ⟨driven, _⟩ => ?_⟩
  · obtain ⟨req, pri, thr⟩ := State.requests_idle idle
    obtain ⟨round, transfer, stray, ackFlt⟩ := exec_outOfStep idle
    refine ⟨req, pri, thr, round, transfer, stray, ackFlt, fun inStep => ?_⟩
    obtain ⟨window, inTransfer, mrs⟩ := inStep.idle idle
    obtain ⟨ack, flt⟩ := State.window_idle window
    have data := State.transfer_idle inTransfer
    exact ⟨ack, flt, data, mrs, s.pullsLow_idle req pri thr ack flt data mrs⟩
  · refine ⟨rfl, fun k => ⟨rfl, rfl⟩, rfl, rfl, rfl, rfl, rfl, fun o nibble bit driven own shown => ?_,
      fun bit silent => ?_, fun pin input => ?_, fun pin low => (s.pullsLow_openDrain i pin low).1⟩
    · simp [State.pullsLow, State.drivenNibble, driven, own, shown]
    · simp [State.pullsLow, State.drivenNibble, silent]
    · rw [← Bool.not_eq_true]
      intro low
      rw [(s.pullsLow_openDrain i pin low).2] at input; cases input
  · simp [wiredHigh]
  · exact ⟨rfl, rfl, rfl, rfl, rfl, rfl, rfl, rfl⟩
  · rcases cs : s.host.selected with _ | _
    · rw [cs] at driven
      refine ⟨by simp [State.sdoLevel, cs], fun byte shown => ?_⟩
      rw [shown] at driven; cases driven
    · rw [cs] at driven
      obtain ⟨byte, shown⟩ := Option.isSome_iff_exists.mp driven
      refine ⟨by simp [State.sdoLevel, cs, shown], fun other same => ?_⟩
      simp [State.sdoLevel, cs, same]

end Sys2Proof.Machine
end


section
/-!
PROOFS. Arbitration rounds (R61 to R66): the winner, rounds that are not taken, and the record that starts
after a win of another station or of this one.
-/
namespace Sys2Proof.Machine

/-! ### The winner of a round (R64) -/

theorem lines_zero_iff (lines : BitVec 8) : lines = 0#8 ↔ ∀ k : StationNo, lineOf lines k = false := by
  constructor
  · rintro rfl k; simp [lineOf]
  · intro off
    apply BitVec.eq_of_getLsbD_eq
    intro i lt
    rw [BitVec.getLsbD_zero]
    exact off ⟨i, lt⟩

/-- Counting up from the turn pointer reaches every station. -/
theorem winnerOf_none_iff (turn : StationNo) (lines : BitVec 8) :
    winnerOf turn lines = none ↔ lines = 0#8 := by
  unfold winnerOf
  rw [List.find?_map, Option.map_eq_none_iff, find?_upTo_eq_none, lines_zero_iff]
  refine ⟨fun off k => ?_, fun off i => off _⟩
  simpa using off (k - (turn + 1))

/-- The winner is the first station counted whose line is asserted. -/
theorem winnerOf_some_iff (turn : StationNo) (lines : BitVec 8) (i : Fin 8) :
    winnerOf turn lines = some (turn + 1 + i) ↔ lineOf lines (turn + 1 + i) = true ∧
      ∀ j : Fin 8, j < i → lineOf lines (turn + 1 + j) = false := by
  have once : Function.Injective (fun j : Fin 8 => turn + 1 + j) := fun _ _ => add_left_cancel
  unfold winnerOf
  rw [List.find?_map, ← find?_upTo_eq_some 8 (fun j => lineOf lines (turn + 1 + j)) i]
  exact Option.map_injective once |>.eq_iff (b := some i)

/-! ### Rounds (R61, R64) -/

/-- No round is taken while the bus is not free to start. -/
theorem State.round_barred {s : State} {thr : Bool} (barred : s.freeToStart thr = false)
    (req : BitVec 8) (started : Option (List Nibble)) : s.round req thr started = s := by
  simp [State.round, barred]

/-- What keeps the bus from being free to start (R61, R77). -/
theorem State.freeToStart_false {s : State} {thr : Bool}
    (h : thr = true ∨ s.thrDriven = true ∨ s.bus.restart = true ∨ s.bus.inTransfer ≠ none ∨
      4 ≤ s.bus.openList.length ∨ ∃ o ∈ s.bus.openList, o.exclusive = true) :
    s.freeToStart thr = false := by
  rw [← Bool.not_eq_true]
  intro free
  simp only [State.freeToStart, Bool.and_eq_true, Bool.not_eq_true', decide_eq_true_eq,
    Option.isNone_iff_eq_none] at free
  obtain ⟨⟨⟨⟨⟨⟨throttle, own⟩, restart⟩, -⟩, transfer⟩, length⟩, exclusive⟩ := free
  rcases h with h | h | h | h | h | ⟨o, member, h⟩
  · simp [throttle] at h
  · simp [own] at h
  · simp [restart] at h
  · exact h transfer
  · simp only [Config.openListMax] at length; omega
  · rw [List.any_eq_false] at exclusive
    exact exclusive o member h

/-- Settles O24: the winner as the first hit of the count; the guard of R61 otherwise. -/
theorem roundsNeedAFreeBusAndPickTheFirstRequester :
    Obligations.RoundsNeedAFreeBusAndPickTheFirstRequester :=
  ⟨fun turn lines => ⟨winnerOf_none_iff turn lines, winnerOf_some_iff turn lines⟩,
    fun req _ started _ h =>
      congrArg Host.Outcome.next (State.round_barred (State.freeToStart_false h) req started)⟩

section
variable {s : State} {req : BitVec 8} {thr : Bool} {started : Option (List Nibble)}

/-- A round that another station wins, or in which this one asserts no REQ. -/
theorem State.round_other {winner : StationNo} (locked : s.bus.locked = true)
    (inStep : s.bus.inStep = true) (free : s.freeToStart thr = true)
    (wins : winnerOf s.bus.turn (s.reqLines req) = some winner)
    (other : ¬ (winner = s.me ∧ s.reqDriven = true)) :
    s.round req thr started = s.recordStarts winner false started := by
  have not : (winner == s.me && s.reqDriven) = false := by
    rw [← Bool.not_eq_true, Bool.and_eq_true, beq_iff_eq]; exact other
  simp [State.round, locked, inStep, free, wins, not]

/-- REQ is asserted only LOCKED and in step, outside an episode, with a chosen record (R62). -/
theorem State.reqDriven_iff : s.reqDriven = true ↔ (s.bus.locked = true ∧ s.bus.inStep = true ∧
    s.bus.restart = false ∧ s.bus.mrsDrive = false) ∧ ∃ o, s.request.own = some o ∧ o.cond = .chosen ∧
    (s.control.member = true ∨ s.control.station = .joining ∧ o.what.kind = .join) ∧
    (o.what.kind.ordinary = false ∨ s.freeze = false) ∧
    (o.what.kind.exclusive = false ∨ s.bus.openList = []) ∧
    (s.bus.priIn = false ∨ o.what.kind.priority = true) := by
  unfold State.reqDriven
  rcases own : s.request.own with _ | o <;> simp [and_assoc]

/-- A round that this station wins (R64, R66). -/
theorem State.round_own (free : s.freeToStart thr = true) (drives : s.reqDriven = true)
    (wins : winnerOf s.bus.turn (s.reqLines req) = some s.me) :
    s.round req thr started = s.beforeWin.win.recordStarts s.me true started := by
  obtain ⟨⟨locked, inStep, -⟩, -⟩ := State.reqDriven_iff.mp drives
  simp [State.round, locked, inStep, free, wins, drives]

/-- A start that follows its round: the sender shown is the winner, and an exclusive kind finds the open
list empty (R65, R80). -/
theorem startViolates_false {winner : StationNo} {received : List Nibble} {openList : List OpenRecord}
    (sender : (senderNibble received).bind stationOfNibble = some winner)
    (kind : startExclusive received = false ∨ openList = []) :
    startViolates winner (some received) openList = false ∧
      startStation received winner = winner := by
  obtain ⟨x, shown, names⟩ := Option.bind_eq_some_iff.mp sender
  refine ⟨?_, by simp [startStation, sender]⟩
  rcases kind with kind | kind <;> simp [startViolates, senderDiffers, shown, names, kind]

/-- A record that starts as its round decided is in transfer, and nothing else changes (R65, R96). -/
theorem State.recordStarts_follows {winner : StationNo} {received : List Nibble} (own : Bool)
    (sender : (senderNibble received).bind stationOfNibble = some winner)
    (kind : startExclusive received = false ∨ s.bus.openList = []) :
    s.recordStarts winner own (some received) = { s with bus := { s.bus with
      turn := winner, inTransfer := some ⟨winner, received, own, s.freeze, own, false⟩ } } := by
  obtain ⟨follows, station⟩ := startViolates_false sender kind
  simp [State.recordStarts, follows, State.startTransfer, station]

end

/-- Settles O25: the record in transfer of a round that this station does not win. -/
theorem anothersWinStartsItsRecord : Obligations.AnothersWinStartsItsRecord := by
  intro req thr started winner s locked inStep free wins other sender kind
  have round := State.round_other (started := some started) locked inStep free wins fun h => other h.1
  rw [State.recordStarts_follows false sender kind] at round
  exact congrArg Host.Outcome.next round

/-! ### The win of this station (R66, R149) -/

/-- The win puts the own record on the bus, and a request leaves the LRQ at its first (R66, R149). -/
theorem State.win_eq {s : State} {o : Own} (own : s.request.own = some o) :
    s.win = { s with request := { s.request with
      own := some { o with
        cond := .onBus, won := true, contents := Record.bytes ⟨s.me, s.winBody o.what⟩ }
      lrq := s.win.request.lrq } } := by
  simp only [State.win, own]

/-- The head of the LRQ leaves at the first win of a request, and only then (R149). -/
theorem State.win_lrq {s : State} {o : Own} (own : s.request.own = some o) :
    (∀ r, o.what = .ordinary r false → o.won = false → s.win.request.lrq = s.request.lrq.tail) ∧
    ((∀ r, o.what ≠ .ordinary r false) ∨ o.won = true → s.win.request.lrq = s.request.lrq) := by
  refine ⟨fun r what won => by simp [State.win, own, what, won], fun kept => ?_⟩
  simp only [State.win, own]
  rcases what : o.what with _ | _ | ⟨r, entry⟩ | _
  case ordinary =>
    rcases kept with kept | won
    · rcases entry with _ | _
      · exact absurd what (kept r)
      · rfl
    · simp [won]
  all_goals rfl

/-- The own record is the entry AUDIT. -/
theorem State.ownIsEntryAudit_iff {s : State} {o : Own} (own : s.request.own = some o) :
    s.ownIsEntryAudit = true ↔ ∃ r, o.what = .ordinary r true := by
  unfold State.ownIsEntryAudit
  rw [own]
  rcases o with ⟨_ | _ | ⟨r, entry⟩ | _, _, _, _, _, _⟩ <;> simp

/-- A record on the bus asserts no REQ (R62). -/
theorem State.reqDriven_onBus {s : State} {o : Own} (own : s.request.own = some o)
    (cond : o.cond = .onBus) : s.reqDriven = false ∧ s.priDriven = false := by
  have req : s.reqDriven = false := by
    rw [← Bool.not_eq_true, State.reqDriven_iff]
    rintro ⟨-, p, same, chosen, -⟩
    rw [own] at same; cases same
    rw [cond] at chosen; cases chosen
  exact ⟨req, by simp [State.priDriven, req]⟩

/-! ### The win of the entry AUDIT (R138, log entry 26) -/

/-- What an application leaves of a station that asserts REQ: it wins the same round still (R62, R64). -/
theorem State.application_requests {s : State} {thr : Bool} (req : BitVec 8)
    (free : s.freeToStart thr = true) (drives : s.reqDriven = true) :
    s.application.freeToStart thr = true ∧ s.application.reqDriven = true ∧
      s.application.me = s.me ∧ s.application.bus.turn = s.bus.turn ∧
      s.application.reqLines req = s.reqLines req := by
  have bus := s.application_bus
  have own : s.application.request.own = s.request.own := s.application_own fun none => by
    simp [State.reqDriven, none] at drives
  have same : s.application.reqDriven = s.reqDriven := by
    unfold State.reqDriven State.freeze
    rw [own, s.application_control, bus]
  have throttle : s.application.thrDriven = true → s.thrDriven = true := by
    unfold State.thrDriven
    rw [s.application_control, bus]
    simp only [Bool.and_eq_true, decide_eq_true_eq, List.length_tail]
    rintro ⟨part, length⟩
    exact ⟨part, by omega⟩
  have me : s.application.me = s.me := by rw [State.me, bus]; rfl
  refine ⟨?_, same.trans drives, me, by rw [bus], by rw [State.reqLines, State.reqLines, same, me]⟩
  unfold State.freeToStart at free ⊢
  simp only [Bool.and_eq_true, Bool.not_eq_true', ← Bool.not_eq_true] at free ⊢
  obtain ⟨⟨⟨⟨⟨⟨thr, own⟩, restart⟩, mrs⟩, transfer⟩, length⟩, exclusive⟩ := free
  rw [bus]
  exact ⟨⟨⟨⟨⟨⟨thr, own ∘ throttle⟩, restart⟩, mrs⟩, transfer⟩, length⟩, exclusive⟩

/-- A record that starts leaves replica, request unit and apply queue (R65, R80). -/
theorem State.recordStarts_frame (winner : StationNo) (own : Bool) (started : Option (List Nibble))
    (s : State) : (s.recordStarts winner own started).request = s.request ∧
      (s.recordStarts winner own started).engine = s.engine ∧
      (s.recordStarts winner own started).control = s.control ∧
      (s.recordStarts winner own started).host = s.host ∧
      (s.recordStarts winner own started).pending = s.pending ∧
      (s.recordStarts winner own started).bus.applyQueue = s.bus.applyQueue ∧
      (s.recordStarts winner own started).bus.openList = s.bus.openList := by
  unfold State.recordStarts
  dsimp only
  rw [State.violated_eq]
  split <;> split <;> exact ⟨rfl, rfl, rfl, rfl, rfl, rfl, rfl⟩

/-- Settles O26: the win after the applications that come before it, which are none unless a SNAP-END
waits for the entry AUDIT. -/
theorem ownWinFixesTheContents : Obligations.OwnWinFixesTheContents := by
  refine ⟨fun req thr started o s free own drives wins sender kind applied => ?_,
    fun req thr started o ref s free own what drives wins => ⟨fun waits => ?_, ?_⟩,
    fun s ref => ⟨rfl, rfl, fun _ => rfl, fun _ _ _ _ _ _ => rfl, fun _ _ _ => rfl,
      fun _ _ _ _ => rfl, fun _ _ _ => rfl, fun _ => rfl⟩⟩
  · have before : s.beforeWin = s := by
      rcases audit : s.ownIsEntryAudit with _ | _
      · exact s.beforeWin_of_other audit
      · exact s.beforeWin_of_applied (applied ((State.ownIsEntryAudit_iff own).mp audit))
    have round := State.round_own (started := some started) free drives wins
    have win := State.win_eq own
    have bus : s.win.bus = s.bus := by rw [win]
    rw [before, State.recordStarts_follows true sender (by rw [bus]; exact kind)] at round
    obtain ⟨first, kept⟩ := State.win_lrq own
    have shown : s.win.request.own = some { o with
        cond := .onBus, won := true, contents := Record.bytes ⟨s.me, s.winBody o.what⟩ } := by
      rw [win]
    refine ⟨_, congrArg Host.Outcome.next round, ?_, shown, first, kept, ?_,
      (State.reqDriven_onBus shown rfl).1, (State.reqDriven_onBus shown rfl).2, rfl, ?_, ?_, ?_, ?_⟩
    · rw [show s.win.freeze = s.freeze by rw [State.freeze, bus]; rfl, bus]; rfl
    all_goals rw [win]
  · obtain ⟨free', drives', me, turn, lines⟩ := State.application_requests req free drives
    refine ⟨s.application, rfl, congrArg Host.Outcome.next ?_⟩
    rw [State.round_own free drives wins,
      State.round_own free' drives' (by rw [me, turn, lines]; exact wins), me,
      s.beforeWin_application ((State.ownIsEntryAudit_iff own).mpr ⟨_, what⟩) waits]
  · have chosen : s.beforeWin.request.own = some o := by
      rw [s.beforeWin_own (by rw [own]; simp), own]
    have none := s.beforeWin_applied ((State.ownIsEntryAudit_iff own).mpr ⟨_, what⟩)
    have me : s.beforeWin.me = s.me := by rw [State.me, s.beforeWin_bus]; rfl
    have win := State.win_eq chosen
    obtain ⟨request, engine, -, -, -, queue, -⟩ :=
      s.beforeWin.win.recordStarts_frame s.me true started
    refine ⟨_, congrArg Host.Outcome.next (State.round_own free drives wins), fun e member end_ target =>
      ?_, ?_⟩
    · rw [queue, win] at member
      rw [← Bool.not_eq_true, State.snapEndWaits_iff] at none
      exact none ⟨e, member, end_, by rw [me]; exact target⟩
    · rw [request, engine, win, me, what]
      rfl

/-! ### PRI (R62, R63) -/

/-- Settles O27: under PRI the REQ that stays is a priority record's. -/
theorem priHoldsBackOtherKinds : Obligations.PriHoldsBackOtherKinds := by
  refine fun asserted s => ⟨_, rfl, rfl, fun level drives => ?_⟩
  obtain ⟨-, o, own, -, -, -, -, pri⟩ := State.reqDriven_iff.mp drives
  have priority : o.what.kind.priority = true := by
    rcases pri with off | priority
    · cases level.symm.trans off
    · exact priority
  rw [State.priDriven, drives, own, Option.map_some, Option.getD_some, priority]
  rfl

end Sys2Proof.Machine
end


section
/-!
PROOFS. The end of a transfer and the protocol violations (R67 to R69, R80, R81, Table 17): a record that
joins the open list, and what a member answers with MRS.
-/
namespace Sys2Proof.Machine

/-! ### What an evaluation reads (R70, R94) -/

/-- Two states that agree in what the checks read drive the same for a record (R70, R94 to R100). -/
theorem driveFor_congr {s t : State} {o : OpenRecord} (locked : t.bus.locked = s.bus.locked)
    (inStep : t.bus.inStep = s.bus.inStep) (station : t.bus.station = s.bus.station)
    (roster : t.bus.roster = s.bus.roster) (list : t.bus.syncList = s.bus.syncList)
    (tracker : t.bus.tracker = s.bus.tracker) (control : t.control = s.control)
    (site : t.host.site = s.host.site) (own : o.own = false ∨ t.request.own = s.request.own) :
    driveFor t o = driveFor s o := by
  have checks : ∀ r, stateChecks t o.frozen r = stateChecks s o.frozen r := fun r => by
    simp only [stateChecks, membershipChecks, originChecks, State.me, station, roster, list, tracker,
      control, site]
  have readBack : readBackCheck t o = readBackCheck s o := by
    rcases own with other | own
    · simp [readBackCheck, other]
    · simp only [readBackCheck, own]
  simp only [driveFor, locked, inStep, control, checks, readBack]

/-! ### The end of a transfer (R67, R68, R78, R80) -/

/-- The state with the record off the data path; the turn pointer takes a sender shown only now (R65). -/
def State.offTransfer (x : Transfer) (rest : List Nibble) (s : State) : State :=
  { s with bus := { s.bus with
      inTransfer := none
      turn := if (senderNibble x.received).isNone then startStation (x.received ++ rest) x.winner
        else s.bus.turn } }

/-- The record received has an allowed length and a place on the open list (R68, R181). -/
def State.transferFits (x : Transfer) (rest : List Nibble) (s : State) : Bool :=
  allowedLength (receivedLength (x.received ++ rest)) &&
    decide (s.bus.openList.length < Config.openListMax)

/-- A member finds the end of a transfer a violation (R80). -/
def State.transferViolates (x : Transfer) (rest : List Nibble) (s : State) : Bool :=
  s.detects && (!s.transferFits x rest || senderDiffers (x.received ++ rest) x.winner)

section
variable {s : State} {x : Transfer} {rest : List Nibble} {mrs : Bool}

/-- The end of a transfer, branch by branch. -/
theorem State.endTransfer_eq (transfer : s.bus.inTransfer = some x) (locked : s.bus.locked = true)
    (inStep : s.bus.inStep = true) : s.endTransfer rest mrs =
      if s.transferViolates x rest then (s.offTransfer x rest).assertMrs
      else if s.transferFits x rest && !(x.barred || s.bus.mrsDrive) then
        State.openWindow { s.offTransfer x rest with bus := { (s.offTransfer x rest).bus with
          openList := s.bus.openList ++
            [⟨bytesOfNibbles (x.received ++ rest), x.own, x.frozen⟩] } }
      else if x.own && !mrs && !(x.barred || s.bus.mrsDrive) then
        ((s.offTransfer x rest).abortOwn true).choose
      else s.offTransfer x rest := by
  unfold State.endTransfer
  rw [transfer]
  exact if_pos (by rw [locked, inStep]; rfl)

/-- A violation is answered with MRS; the open list stays (R80, R81). -/
theorem State.endTransfer_violates (transfer : s.bus.inTransfer = some x)
    (locked : s.bus.locked = true) (inStep : s.bus.inStep = true)
    (violates : s.transferViolates x rest = true) :
    s.endTransfer rest mrs = (s.offTransfer x rest).assertMrs := by
  rw [State.endTransfer_eq transfer locked inStep, if_pos violates]

/-- A record of an allowed length that is not barred joins the open list (R68). -/
theorem State.endTransfer_joins (transfer : s.bus.inTransfer = some x)
    (locked : s.bus.locked = true) (inStep : s.bus.inStep = true)
    (follows : s.transferViolates x rest = false) (fits : s.transferFits x rest = true)
    (free : (x.barred || s.bus.mrsDrive) = false) : s.endTransfer rest mrs =
      State.openWindow { s.offTransfer x rest with bus := { (s.offTransfer x rest).bus with
        openList := s.bus.openList ++
          [⟨bytesOfNibbles (x.received ++ rest), x.own, x.frozen⟩] } } := by
  rw [State.endTransfer_eq transfer locked inStep, follows, fits, free]
  rfl

/-- A record whose start was the violation, or that ends while MRS is asserted, leaves only the data path
(R80, log entry 7). -/
theorem State.endTransfer_barred (transfer : s.bus.inTransfer = some x)
    (locked : s.bus.locked = true) (inStep : s.bus.inStep = true)
    (follows : s.transferViolates x rest = false) (barred : (x.barred || s.bus.mrsDrive) = true) :
    s.endTransfer rest mrs = s.offTransfer x rest := by
  rw [State.endTransfer_eq transfer locked inStep, follows, barred]
  simp

/-- At a member the end that is no violation fits. -/
theorem State.transferFits_of_follows (detects : s.detects = true)
    (follows : s.transferViolates x rest = false) : s.transferFits x rest = true := by
  simp only [State.transferViolates, detects, Bool.true_and, Bool.or_eq_false_iff,
    Bool.not_eq_false'] at follows
  exact follows.1

/-- With the sender field received at the start, the nibbles after it change neither the sender nor the
turn pointer. -/
theorem senderNibble_append (received rest : List Nibble) (shown : (senderNibble received).isSome = true) :
    senderNibble (received ++ rest) = senderNibble received := by
  obtain ⟨nibble, some⟩ := Option.isSome_iff_exists.mp shown
  obtain ⟨within, -⟩ := List.getElem?_eq_some_iff.mp some
  exact List.getElem?_append_left within

/-- Settles O28: the branch of R68, and the window that opens for the record alone on the list. -/
theorem completeRecordJoinsTheOpenList : Obligations.CompleteRecordJoinsTheOpenList := by
  intro rest mrs x s transfer locked inStep mrsDrive unbarred even allowed room shown sender
  have fits : s.transferFits x rest = true := by
    have length : receivedLength (x.received ++ rest) = (x.received ++ rest).length / 2 := if_pos even
    rw [State.transferFits, length, allowed, Bool.true_and, decide_eq_true_eq]
    exact room
  have follows : s.transferViolates x rest = false := by
    have same : senderDiffers (x.received ++ rest) x.winner = senderDiffers x.received x.winner := by
      rw [senderDiffers, senderDiffers, senderNibble_append x.received rest shown]
    rw [State.transferViolates, fits, same, sender]
    exact Bool.and_false _
  have turn : (s.offTransfer x rest).bus = { s.bus with inTransfer := none } := by
    have some : (senderNibble x.received).isNone = false := by simpa using shown
    simp [State.offTransfer, some]
  have joins := State.endTransfer_joins (mrs := mrs) transfer locked inStep follows fits
    (by rw [unbarred, mrsDrive]; rfl)
  refine ⟨_, congrArg Host.Outcome.next joins, ⟨?_, ?_, ?_, ?_, ?_⟩, ?_, ?_, ?_, fun d window => ?_,
    fun window empty => ?_⟩
  · exact State.openWindow_engine _
  · exact State.openWindow_request _
  · exact State.openWindow_control _
  · exact State.openWindow_host _
  · exact State.openWindow_pending _
  · exact State.openWindow_bus_openList _
  · rw [State.openWindow_bus_inTransfer]; rfl
  · rw [State.openWindow_bus_eq, turn]
  · rw [State.openWindow_window, turn]
    simp [window]
  · rw [State.openWindow_window, turn]
    simp only [window, empty, List.nil_append, List.head?_cons, Option.map_some, Option.some.injEq]
    exact driveFor_congr rfl rfl rfl rfl rfl rfl rfl rfl (.inr rfl)

end

/-! ### Starts (R80) -/

section
variable {s : State} {winner : StationNo} {own : Bool} {started : Option (List Nibble)}

/-- At a station that detects nothing a record starts as it is seen. -/
theorem State.recordStarts_silent (silent : s.detects = false) :
    (s.recordStarts winner own started).bus.mrsDrive = s.bus.mrsDrive := by
  simp only [State.recordStarts, silent, Bool.false_and, Bool.false_eq_true, if_false]
  split <;> rfl

/-- A start that is a violation, at a member outside an episode: MRS, and whatever is in transfer is
barred (R80, R81). -/
theorem State.recordStarts_violates (detects : s.detects = true) (restart : s.bus.restart = false)
    (violates : startViolates winner started s.bus.openList = true) :
    (s.recordStarts winner own started).bus.mrsDrive = true ∧
    ∀ x, (s.recordStarts winner own started).bus.inTransfer = some x → x.barred = true := by
  simp only [State.recordStarts, detects, violates, Bool.and_self, if_true]
  rw [State.violated_eq]
  refine ⟨?_, fun x barred => ?_⟩
  · have kept : (if started.isNone && !own then s else
        s.startTransfer winner own (started.getD [])).bus.restart = false := by
      split <;> exact restart
    show (_ || !_) = true
    rw [kept]; exact Bool.or_true _
  · obtain ⟨y, -, same⟩ := Option.map_eq_some_iff.mp barred
    rw [← same]

end

/-- Two states with the same standing detect the same violations. -/
theorem State.detects_iff (s : State) : s.detects = true ↔
    s.bus.locked = true ∧ s.bus.inStep = true ∧ s.control.member = true := by
  simp [State.detects, and_assoc]

/-- The state a win leaves differs from that before it in apply queue, replica, request unit and port. -/
theorem State.beforeWin_win_bus (s : State) :
    s.beforeWin.win.bus = { s.bus with applyQueue := s.beforeWin.bus.applyQueue } := by
  rw [← s.beforeWin_bus]
  unfold State.win
  split <;> rfl

theorem State.beforeWin_win_control (s : State) : s.beforeWin.win.control = s.control := by
  rw [← s.beforeWin_control]
  unfold State.win
  split <;> rfl

theorem State.beforeWin_win_pending (s : State) : s.beforeWin.win.pending = s.pending := by
  rw [← s.beforeWin_pending]
  unfold State.win
  split <;> rfl

/-- Nothing comes before a win but for the entry AUDIT with its SNAP-END waiting (log entry 26). -/
theorem State.beforeWin_win_engine {s : State}
    (h : s.ownIsEntryAudit = false ∨ s.snapEndWaits = false) :
    s.beforeWin.win.engine = s.engine ∧ s.beforeWin.win.host = s.host := by
  have same : s.beforeWin = s := by
    rcases h with other | applied
    · exact s.beforeWin_of_other other
    · exact s.beforeWin_of_applied applied
  rw [same]
  unfold State.win
  split <;> exact ⟨rfl, rfl⟩

/-- A round whose start is a violation, at a member outside an episode (R80, R81). -/
theorem State.round_violates {s : State} {req : BitVec 8} {thr : Bool}
    {started : Option (List Nibble)} {winner : StationNo} (detects : s.detects = true)
    (restart : s.bus.restart = false) (free : s.freeToStart thr = true)
    (wins : winnerOf s.bus.turn (s.reqLines req) = some winner)
    (violates : startViolates winner started s.bus.openList = true) :
    (s.round req thr started).bus.mrsDrive = true ∧
    (s.round req thr started).bus.openList = s.bus.openList ∧
    (∀ x, (s.round req thr started).bus.inTransfer = some x → x.barred = true) ∧
    (s.round req thr started).control = s.control ∧ (s.round req thr started).pending = s.pending ∧
    (s.ownIsEntryAudit = false ∨ s.snapEndWaits = false ∨ winner ≠ s.me →
      (s.round req thr started).engine = s.engine ∧ (s.round req thr started).host = s.host) := by
  obtain ⟨locked, inStep, member⟩ := s.detects_iff.mp detects
  by_cases mine : winner = s.me ∧ s.reqDriven = true
  · obtain ⟨rfl, drives⟩ := mine
    rw [State.round_own free drives wins]
    have bus := s.beforeWin_win_bus
    have again : s.beforeWin.win.detects = true := by
      rw [State.detects_iff, bus, s.beforeWin_win_control]
      exact ⟨locked, inStep, member⟩
    obtain ⟨-, engine, control, host, pending, -, openList⟩ :=
      s.beforeWin.win.recordStarts_frame s.me true started
    obtain ⟨mrs, barred⟩ := State.recordStarts_violates (own := true) again (by rw [bus]; exact restart)
      (by rw [bus]; exact violates)
    refine ⟨mrs, by rw [openList, bus], barred, by rw [control, s.beforeWin_win_control],
      by rw [pending, s.beforeWin_win_pending], fun applied => ?_⟩
    rw [engine, host]
    rcases applied with other | applied | other
    · exact State.beforeWin_win_engine (.inl other)
    · exact State.beforeWin_win_engine (.inr applied)
    · exact absurd rfl other
  · rw [State.round_other locked inStep free wins mine]
    obtain ⟨-, engine, control, host, pending, -, openList⟩ := s.recordStarts_frame winner false started
    obtain ⟨mrs, barred⟩ := State.recordStarts_violates (own := false) detects restart violates
    exact ⟨mrs, openList, barred, control, pending, fun _ => ⟨engine, host⟩⟩

/-- A round leaves MRS as it is at a station that detects nothing. -/
theorem State.round_silent (s : State) (silent : s.detects = false) (req : BitVec 8) (thr : Bool)
    (started : Option (List Nibble)) : (s.round req thr started).bus.mrsDrive = s.bus.mrsDrive := by
  unfold State.round
  split
  · split
    · rfl
    · split
      · have again : s.beforeWin.win.detects = false := by
          unfold State.detects at silent ⊢
          rwa [s.beforeWin_win_bus, s.beforeWin_win_control]
        rw [State.recordStarts_silent again, s.beforeWin_win_bus]
      · exact State.recordStarts_silent silent
  · rfl

/-! ### Violations at a member, in an episode, and at a station that is no member -/

/-- The end of a transfer at a member (R80, R81). -/
theorem State.endTransfer_member {s : State} {x : Transfer} (detects : s.detects = true)
    (transfer : s.bus.inTransfer = some x) (rest : List Nibble) (mrs : Bool) :
    (s.transferViolates x rest = true ∧
      s.endTransfer rest mrs = (s.offTransfer x rest).assertMrs) ∨
    (s.transferViolates x rest = false ∧ (x.barred || s.bus.mrsDrive) = true ∧
      s.endTransfer rest mrs = s.offTransfer x rest) ∨
    (x.barred || s.bus.mrsDrive) = false ∧ s.endTransfer rest mrs =
      State.openWindow { s.offTransfer x rest with bus := { (s.offTransfer x rest).bus with
        openList := s.bus.openList ++
          [⟨bytesOfNibbles (x.received ++ rest), x.own, x.frozen⟩] } } := by
  obtain ⟨locked, inStep, -⟩ := s.detects_iff.mp detects
  rcases follows : s.transferViolates x rest with _ | _
  · rcases barred : (x.barred || s.bus.mrsDrive) with _ | _
    · exact .inr (.inr ⟨rfl, State.endTransfer_joins transfer locked inStep follows
        (State.transferFits_of_follows detects follows) barred⟩)
    · exact .inr (.inl ⟨rfl, rfl, State.endTransfer_barred transfer locked inStep follows barred⟩)
  · exact .inl ⟨rfl, State.endTransfer_violates transfer locked inStep follows⟩

/-- A record where none may start, outside an episode (R80). -/
theorem State.strayStart_eq {s : State} (locked : s.bus.locked = true) (inStep : s.bus.inStep = true)
    (restart : s.bus.restart = false) (started : List Nibble) : s.strayStart started =
      if s.bus.inTransfer.isSome then
        let after : State := { s with bus := { s.bus with turn := startStation started s.bus.turn } }
        if s.detects then after.assertMrs else after
      else
        let after := s.startTransfer (startStation started s.bus.turn) false started
        if s.detects then after.violated else after := by
  unfold State.strayStart
  exact if_pos (by rw [locked, inStep, restart]; rfl)

/-- A record where none may start, at a member outside an episode (R80, R81). -/
theorem State.strayStart_member {s : State} (detects : s.detects = true)
    (restart : s.bus.restart = false) (started : List Nibble) :
    (s.strayStart started).bus.mrsDrive = true ∧
    (s.strayStart started).bus.openList = s.bus.openList ∧ OnlyBus s (s.strayStart started) ∧
    (s.bus.inTransfer = none →
      ∃ x, (s.strayStart started).bus.inTransfer = some x ∧ x.barred = true) ∧
    (s.bus.inTransfer ≠ none → (s.strayStart started).bus.inTransfer = s.bus.inTransfer) := by
  obtain ⟨locked, inStep, -⟩ := s.detects_iff.mp detects
  have mrs : (s.bus.mrsDrive || !s.bus.restart) = true := by rw [restart]; exact Bool.or_true _
  rw [State.strayStart_eq locked inStep restart]
  simp only [detects, if_true, State.violated_eq, State.assertMrs_eq]
  rcases transfer : s.bus.inTransfer with _ | x
  · exact ⟨mrs, rfl, ⟨rfl, rfl, rfl, rfl, rfl⟩, fun _ => ⟨_, rfl, rfl⟩, fun busy => absurd rfl busy⟩
  · exact ⟨mrs, rfl, ⟨rfl, rfl, rfl, rfl, rfl⟩, fun none => (nomatch none), fun _ => rfl⟩

/-- Within an episode MRS is not asserted again (R81). -/
theorem State.assertMrs_episode {s : State} (restart : s.bus.restart = true) : s.assertMrs = s := by
  simp [State.assertMrs, restart]

/-- Settles O29: a member outside an episode, a member within one, and a station that is no member. -/
theorem memberAnswersViolationsWithMrs : Obligations.MemberAnswersViolationsWithMrs := by
  refine ⟨fun s locked inStep member restart => ?_, fun s locked inStep member restart => ?_,
    fun s locked inStep restart none => ?_⟩
  · have detects := s.detects_iff.mpr ⟨locked, inStep, member⟩
    refine ⟨fun rest mrs x transfer violation => ?_, fun rest mrs x transfer barred => ?_,
      fun started => ⟨_, rfl, State.strayStart_member detects restart started⟩,
      fun req thr started winner free wins violation => ?_, ?_⟩
    · have violates : s.transferViolates x rest = true := by
        rcases violation with length | full | sender
        · simp [State.transferViolates, State.transferFits, detects, length]
        · have : ¬ s.bus.openList.length < Config.openListMax := by
            simp only [Config.openListMax]; omega
          simp [State.transferViolates, State.transferFits, detects, this]
        · simp [State.transferViolates, detects, sender]
      refine ⟨_, congrArg Host.Outcome.next
        (State.endTransfer_violates transfer locked inStep violates), ?_⟩
      rw [State.assertMrs_eq]
      refine ⟨?_, rfl, rfl, rfl, rfl, rfl, rfl, rfl⟩
      exact (congrArg (s.bus.mrsDrive || !·) restart).trans (Bool.or_true _)
    · refine ⟨_, rfl, ?_⟩
      rcases State.endTransfer_member detects transfer rest mrs with ⟨-, ends⟩ | ⟨-, -, ends⟩ | ⟨free, -⟩
      · rw [ends, State.assertMrs_eq]
        exact ⟨rfl, rfl, rfl, rfl, rfl, rfl, rfl⟩
      · rw [ends]
        exact ⟨rfl, rfl, rfl, rfl, rfl, rfl, rfl⟩
      · rw [barred] at free; cases free
    · refine ⟨_, rfl, State.round_violates detects restart free wins ?_⟩
      rcases violation with rfl | ⟨received, rfl, sender | ⟨exclusive, busy⟩⟩
      · rfl
      · simp [startViolates, sender]
      · simp [startViolates, exclusive, busy]
    · refine ⟨_, rfl, ?_⟩
      simp only [State.strayAck, detects, Bool.true_and]
      rcases window : s.bus.window.isNone with _ | _
      · exact ⟨(Bool.or_false _).symm, rfl, rfl, rfl, rfl, rfl, rfl⟩
      · rw [if_pos rfl, State.assertMrs_eq]
        exact ⟨congrArg (s.bus.mrsDrive || !·) restart, rfl, rfl, rfl, rfl, rfl, rfl⟩
  · have detects := s.detects_iff.mpr ⟨locked, inStep, member⟩
    refine ⟨fun rest mrs => ⟨_, rfl, ?_⟩, fun started => ?_, fun req thr started => ?_, ?_⟩
    · show (s.endTransfer rest mrs).bus.mrsDrive = _
      rcases transfer : s.bus.inTransfer with _ | x
      · simp [State.endTransfer, transfer]
      · rcases State.endTransfer_member detects transfer rest mrs with ⟨-, ends⟩ | ⟨-, -, ends⟩ | ⟨-, ends⟩
        · rw [ends, State.assertMrs_episode (s := s.offTransfer x rest) restart]; rfl
        · rw [ends]; rfl
        · rw [ends, State.openWindow_bus_mrsDrive]; rfl
    · simp [exec, execRecordStartWithoutRound, State.strayStart, restart]
    · exact congrArg Host.Outcome.next
        (State.round_barred (State.freeToStart_false (.inr (.inr (.inl restart)))) req started)
    · simp [exec, execAckOrFltOutOfWindow, State.strayAck, State.assertMrs_episode restart]
  · have silent : s.detects = false := by simp [State.detects, none]
    refine ⟨?_, fun started => ⟨_, rfl, ?_⟩, fun req thr started => ⟨_, rfl, s.round_silent silent ..⟩,
      fun rest mrs => ⟨_, rfl, ?_⟩⟩
    · simp [exec, execAckOrFltOutOfWindow, State.strayAck, silent]
    · rw [State.strayStart_eq locked inStep restart, silent]
      split <;> exact ⟨rfl, rfl, rfl, rfl, rfl, rfl⟩
    · show (s.endTransfer rest mrs).bus.mrsDrive = true → _
      rcases transfer : s.bus.inTransfer with _ | x
      · simp [State.endTransfer, transfer]
      · rw [State.endTransfer_eq transfer locked inStep]
        split
        · rename_i violates
          simp [State.transferViolates, silent] at violates
        · split
          · rw [State.openWindow_bus_mrsDrive]; exact id
          · split
            · rw [State.choose_bus]
              rcases (s.offTransfer x rest).abortOwn_bus true with same | ⟨exit, -⟩
              · rw [same]; exact id
              · rw [exit]; intro mrs; cases mrs
            · exact id

end Sys2Proof.Machine
end


section
/-!
PROOFS. The checks of a check window (R94 to R100) and the snapshot tracker at a commit (R98).
-/
namespace Sys2Proof.Machine

/-! ### Kinds and targets -/

theorem Body.kind_leave_iff (b : Body) : b.kind = .leave ↔ b = .leave := by
  cases b <;> simp [Body.kind]

/-- A record with a target is of a snapshot kind (R84). -/
theorem Body.exclusive_of_target {b : Body} {k : StationNo} (target : b.target = some k) :
    b.kind.ordinary = false ∧ b.kind ≠ .leave ∧ ∀ code, b ≠ .join code := by
  cases b with
  | snapHead | snapClaim | snapPool | snapEnd =>
    exact ⟨rfl, by simp [Body.kind], fun _ same => by cases same⟩
  | _ => cases target

/-! ### The drive in a window (R70, R94, R95) -/

section
variable {s : State} {o : OpenRecord}

/-- A member in step drives FLT for a record that fails its form (R95). -/
theorem driveFor_unformed (locked : s.bus.locked = true) (inStep : s.bus.inStep = true)
    (member : s.control.member = true) (form : parseRecord o.bytes = none) : driveFor s o = .flt := by
  simp [driveFor, locked, inStep, member, form]

/-- A member in step drives its ACK where every check passes, and FLT otherwise (R70). -/
theorem driveFor_formed {r : Record} (locked : s.bus.locked = true) (inStep : s.bus.inStep = true)
    (member : s.control.member = true) (form : parseRecord o.bytes = some r) :
    driveFor s o = if stateChecks s o.frozen r && readBackCheck s o then .ack r else .flt := by
  simp [driveFor, locked, inStep, member, form]

/-- Only a sender reads back (R94). -/
theorem readBackCheck_other (h : o.own = false ∨ s.request.own = none) : readBackCheck s o = true := by
  rcases h with other | none
  · simp [readBackCheck, other]
  · simp [readBackCheck, none]

theorem readBackCheck_own {own : Own} (mine : o.own = true) (own_ : s.request.own = some own) :
    readBackCheck s o = true ↔ own.contents = o.bytes := by
  simp [readBackCheck, mine, own_]

end

/-! ### The checks of each state (R94, Tables 22 to 24) -/

/-- AWAITING: a record addressed to the station is a SNAP-HEAD (R94, R99). -/
theorem firstRecordCheck_iff (r : Record) (me : StationNo) : firstRecordCheck r me = true ↔
    (r.body.target = some me → r.body.kind = .snapHead) := by
  simp only [firstRecordCheck, Record.addressedTo, Bool.or_eq_true, Bool.not_eq_true', beq_iff_eq,
    beq_eq_false_iff_ne, ne_eq]
  tauto

/-- The roster check (R96). -/
theorem rosterCheck_iff (roster : Roster) (r : Record) : rosterCheck roster r = true ↔
    (r.body.kind.ordinary = true ∨ r.body = .leave → roster[r.sender] ≠ .absent) := by
  simp only [rosterCheck, ← Body.kind_leave_iff]
  cases r.body.kind.ordinary <;> simp [imp_iff_not_or]

/-- The freeze check (R96). -/
theorem freezeCheck_iff (frozen : Bool) (r : Record) : freezeCheck frozen r = true ↔
    (r.body.kind.ordinary = true → frozen = false) := by
  unfold freezeCheck
  cases r.body.kind.ordinary <;> simp

/-- The site-code check (R96). -/
theorem siteCheck_iff (site : BitVec 16) (r : Record) : siteCheck site r = true ↔
    ∀ code, r.body = .join code → code = site := by
  unfold siteCheck
  split
  · rename_i code body
    simp [body]
  · rename_i other
    exact ⟨fun _ code body => absurd body (other code), fun _ => rfl⟩

/-- The membership checks (R96). -/
theorem membershipChecks_iff (s : State) (frozen : Bool) (r : Record) :
    membershipChecks s frozen r = true ↔
      (r.body.kind.ordinary = true ∨ r.body = .leave → s.bus.roster[r.sender] ≠ .absent) ∧
      (r.body.kind.ordinary = true → frozen = false) ∧
      (∀ code, r.body = .join code → code = s.host.site) := by
  rw [membershipChecks, Bool.and_eq_true, Bool.and_eq_true, rosterCheck_iff, freezeCheck_iff,
    siteCheck_iff, and_assoc]

/-- The origin checks (R97). -/
theorem originChecks_iff (s : State) (r : Record) : originChecks s r = true ↔
    ∀ target, r.body.target = some target →
      donorOf s.bus.roster s.bus.syncList = some r.sender ∧ s.bus.syncList.head? = some target := by
  unfold originChecks
  rcases r.body.target with _ | target <;> simp

/-- The integrity check (R100). -/
theorem integrityCheck_iff (x : Tracker) : integrityCheck x = true ↔
    ∀ p : PoolNo, ∃ f, x.figures[p] = some f ∧
      f.granted = ((sumOver 8 fun h => x.tally[p][h].heldUnits : Nat) : Int) ∧
      f.waiting = ((sumOver 8 fun h => x.tally[p][h].waiting : Nat) : Int) := by
  have agrees : ∀ p : PoolNo, poolAgrees x.figures[p] x.tally[p] = true ↔
      ∃ f, x.figures[p] = some f ∧
        f.granted = ((sumOver 8 fun h => x.tally[p][h].heldUnits : Nat) : Int) ∧
        f.waiting = ((sumOver 8 fun h => x.tally[p][h].waiting : Nat) : Int) := fun p => by
    unfold poolAgrees
    rcases x.figures[p] with _ | f <;> simp
  simp only [integrityCheck, List.all_eq_true, mem_upTo, true_implies, agrees]

/-- The sequence checks of a record addressed to this station, kind by kind (R99, Table 24). -/
theorem sequenceChecks_iff {b : Body} {me : StationNo} (x : Tracker) (target : b.target = some me) :
    sequenceChecks x b = true ↔
      (∀ slot c, b = .snapClaim me slot c → x.phase = .loading ∧ x.nextPool = 0 ∧
        ∀ last, x.lastSlot = some last → last < slot) ∧
      (∀ p f, b = .snapPool me p f → x.phase = .loading ∧ x.nextPool = p.val) ∧
      (∀ count, b = .snapEnd me count → x.phase = .loading ∧ x.nextPool = 8 ∧
        count = x.received ∧ integrityCheck x = true) := by
  cases b with
  | snapHead k number roster list => simp [sequenceChecks]
  | snapClaim k slot c =>
    cases target
    rcases last : x.lastSlot with _ | last <;> simp [sequenceChecks, last, and_assoc]
  | snapPool k p f =>
    cases target
    simp only [sequenceChecks, Bool.and_eq_true, beq_iff_eq, eq_comm (a := p.val)]
    simp
  | snapEnd k count =>
    cases target
    simp [sequenceChecks, and_assoc]
  | _ => cases target

/-! ### The snapshot tracker at a commit (R98) -/

/-- Whose tallies a commit takes: the stations dropped, and a LEAVE's sender (R98, step 1). -/
def goneBy (r : Record) (drop : List StationNo) (h : StationNo) : Bool :=
  drop.contains h || (r.body.kind == .leave && h == r.sender)

theorem Tracker.frees_tally (gone : StationNo → Bool) (x : Tracker) (p : PoolNo) (h : StationNo) :
    (x.frees gone).tally[p][h] = if gone h then ⟨0, 0⟩ else x.tally[p][h] := by
  unfold Tracker.frees
  rw [getElem_tab, getElem_tab]

theorem Tracker.frees_figures (gone : StationNo → Bool) (x : Tracker) (p : PoolNo) :
    (x.frees gone).figures[p] = x.figures[p].map fun f =>
      ⟨f.granted - (x.removed gone p).heldUnits, f.waiting - (x.removed gone p).waiting⟩ :=
  getElem_tab _ p

section
variable {me : StationNo} {r : Record} {drop : List StationNo} {isVoid : Bool} (x : Tracker)

/-- A SNAP-HEAD for this station, not void, starts the tracker afresh. -/
theorem Tracker.commit_head (target : r.body.target = some me) (kind : r.body.kind = .snapHead) :
    x.commit me r drop false = Tracker.restart := by
  obtain ⟨k, b⟩ := r
  cases b with
  | snapHead => exact if_pos (by simpa [Record.addressedTo] using target)
  | _ => cases kind

/-- A SNAP-END for this station, not void, returns it to IDLE. -/
theorem Tracker.commit_end (target : r.body.target = some me) (kind : r.body.kind = .snapEnd) :
    x.commit me r drop false = Tracker.idle := by
  obtain ⟨k, b⟩ := r
  cases b with
  | snapEnd => exact if_pos (by simpa [Record.addressedTo] using target)
  | _ => cases kind

/-- At a record for another station, and at a void head or end, the frees alone count (R98, step 1). -/
theorem Tracker.commit_frees (h : r.body.target ≠ some me ∨
    isVoid = true ∧ (r.body.kind = .snapHead ∨ r.body.kind = .snapEnd)) :
    x.commit me r drop isVoid = x.frees (goneBy r drop) := by
  obtain ⟨k, b⟩ := r
  rcases h with other | ⟨rfl, kind⟩
  · exact if_neg (by simpa [Record.addressedTo] using other)
  · cases b with
    | snapHead | snapEnd => exact ite_self _
    | _ => rcases kind with kind | kind <;> cases kind

theorem Tracker.commit_claim {slot : SlotNo} {c : Claim} (body : r.body = .snapClaim me slot c) :
    x.commit me r drop isVoid =
      (x.frees (goneBy r drop)).addClaim (drop.contains c.holder) slot c := by
  obtain ⟨k, b⟩ := r
  cases body
  exact if_pos (by simp [Record.addressedTo, Body.target])

theorem Tracker.commit_pool {p : PoolNo} {f : Pool} (body : r.body = .snapPool me p f) :
    x.commit me r drop isVoid =
      (x.frees (goneBy r drop)).addPool (x.removed (goneBy r drop) p) p f := by
  obtain ⟨k, b⟩ := r
  cases body
  exact if_pos (by simp [Record.addressedTo, Body.target])

/-- A claim counted: its holder's tally in its pool grows, unless the holder is dropped (R98, step 3). -/
theorem Tracker.addClaim_tally (dropped : Bool) (slot : SlotNo) (c : Claim) (p : PoolNo)
    (h : StationNo) : (x.addClaim dropped slot c).tally[p][h] =
      if p = c.pool ∧ h = c.holder ∧ dropped = false then
        (if c.state = .held
          then { x.tally[p][h] with heldUnits := x.tally[p][h].heldUnits + c.units.toNat }
          else { x.tally[p][h] with waiting := x.tally[p][h].waiting + 1 })
      else x.tally[p][h] := by
  rcases dropped with _ | _
  · show (put x.tally c.pool (put x.tally[c.pool] c.holder _))[p][h] = _
    by_cases pool : c.pool = p
    · subst pool
      rw [getElem_put_same]
      by_cases holder : c.holder = h
      · subst holder
        rw [getElem_put_same, if_pos ⟨rfl, rfl, rfl⟩]
        cases c.state <;> rfl
      · rw [getElem_put_other _ _ _ _ holder, if_neg fun counted => holder counted.2.1.symm]
    · rw [getElem_put_other _ _ _ _ pool, if_neg fun counted => pool counted.1.symm]
  · rw [if_neg fun counted => Bool.noConfusion counted.2.2]
    rfl

end

/-- Settles O30: each drive and each check by its own lemma; the tracker by the record that commits. -/
theorem evaluationDrivesAckOrFlt : Obligations.EvaluationDrivesAckOrFlt := by
  refine ⟨fun s o locked inStep => ⟨driveFor_of_not_member s o, driveFor_unformed locked inStep,
      fun r member form other => ?_, fun r own member form mine own_ => ?_⟩,
    fun s frozen r awaiting => ?_, fun s frozen r awaiting loading => ?_,
    fun s frozen r loading target => ?_, fun me r drop isVoid x => ?_⟩
  · rw [driveFor_formed locked inStep member form, readBackCheck_other other, Bool.and_true]
  · rw [driveFor_formed locked inStep member form]
    simp only [Bool.and_eq_true, readBackCheck_own mine own_]
  · rw [stateChecks, if_pos awaiting, firstRecordCheck_iff]
  · have sequence : (!(s.control.loading && r.addressedTo s.me) ||
        sequenceChecks s.bus.tracker r.body) = true := by
      rcases phase : s.control.loading with _ | _
      · rfl
      · have other : r.addressedTo s.me = false := by
          simpa [Record.addressedTo] using loading phase
        rw [other]; rfl
    rw [stateChecks, awaiting, if_neg (by decide), sequence, Bool.and_true, Bool.and_eq_true,
      membershipChecks_iff, originChecks_iff, and_assoc, and_assoc]
  · dsimp only
    have awaiting : s.control.awaiting = false := by
      simp only [Controller.loading, Bool.and_eq_true, beq_iff_eq] at loading
      simp [Controller.awaiting, loading.2]
    have addressed : r.addressedTo s.me = true := by simp [Record.addressedTo, target]
    obtain ⟨kind, leave, join⟩ := Body.exclusive_of_target target
    have membership : membershipChecks s frozen r = true := by
      rw [membershipChecks_iff, ← Body.kind_leave_iff, kind]
      exact ⟨fun h => by rcases h with h | h; cases h; exact absurd h leave, (nomatch ·),
        fun code body => absurd body (join code)⟩
    rw [stateChecks, awaiting, if_neg (by decide), membership, loading, addressed]
    simp only [Bool.true_and, Bool.and_self, Bool.not_true, Bool.false_or, Bool.and_eq_true,
      originChecks_iff, sequenceChecks_iff s.bus.tracker target, integrityCheck_iff, target, Option.some.injEq,
      forall_eq', and_assoc]
  · intro gone kept lowered y
    have goneBy_eq : goneBy r drop = gone := funext fun h => by
      have kind : (r.body.kind == Kind.leave) = (r.body == Body.leave) := by
        rw [Bool.eq_iff_iff, beq_iff_eq, beq_iff_eq, Body.kind_leave_iff]
      rw [goneBy, kind]
    refine ⟨fun target kind counts => ?_, fun target kind counts => ?_, fun other => ?_,
      fun slot c body => ?_, fun q f body => ?_⟩
    · exact (congrArg (x.commit me r drop) counts).trans (x.commit_head target kind)
    · exact (congrArg (x.commit me r drop) counts).trans (x.commit_end target kind)
    · have frees : y = x.frees gone := (x.commit_frees other).trans (by rw [goneBy_eq])
      rw [frees]
      exact ⟨rfl, rfl, rfl, rfl, x.frees_tally gone, x.frees_figures gone⟩
    · have claim : y = (x.frees gone).addClaim (drop.contains c.holder) slot c :=
        (x.commit_claim body).trans (by rw [goneBy_eq])
      rw [claim]
      refine ⟨rfl, rfl, rfl, rfl, fun p h => ?_, x.frees_figures gone⟩
      rw [Tracker.addClaim_tally, x.frees_tally gone]
      by_cases counted : p = c.pool ∧ h = c.holder ∧ c.holder ∉ drop
      · have stays : gone h = false := by
          obtain ⟨-, rfl, on⟩ := counted
          simp [gone, on, body]
        rw [if_pos counted, if_pos (by simpa using counted), stays]
        rfl
      · rw [if_neg counted, if_neg (by simpa using counted)]
    · have pool : y = (x.frees gone).addPool (x.removed gone q) q f :=
        (x.commit_pool body).trans (by rw [goneBy_eq])
      rw [pool]
      refine ⟨rfl, rfl, rfl, rfl, x.frees_tally gone, fun p => ?_⟩
      show (put (x.frees gone).figures q _)[p] = _
      by_cases same : q = p
      · subst same
        rw [getElem_put_same, if_pos rfl]
        rfl
      · rw [getElem_put_other _ _ _ _ same, if_neg (Ne.symm same), x.frees_figures gone]
        rfl

end Sys2Proof.Machine
end


section
/-!
PROOFS. The ends of the own record and the exits (R58, R71, R75, R78, R82, R112, R115, R117, R153 to R158):
which completions they post, and what a lock loss, a failed ACK, an abort and a restart episode leave.
-/
namespace Sys2Proof.Machine

/-! ### The own record on the bus -/

theorem State.ownOnBus_some {s : State} {own : Own} (present : s.request.own = some own)
    (onBus : own.cond = .onBus) : s.ownOnBus = some own := by
  simp [State.ownOnBus, present, onBus]

theorem State.ownOnBus_none {s : State} (absent : s.request.own = none) : s.ownOnBus = none := by
  simp [State.ownOnBus, absent]

theorem State.ownOnBus_chosen {s : State} {own : Own} (present : s.request.own = some own)
    (chosen : own.cond = .chosen) : s.ownOnBus = none := by
  simp [State.ownOnBus, present, chosen]

/-- An exit leaves the own record that is on the bus (R78). -/
@[simp] theorem State.enterOutside_ownOnBus (cause : ExitCause) (last : Nat → LastCmd) (s : State) :
    (s.enterOutside cause last).ownOnBus = s.ownOnBus := by
  simp [State.ownOnBus, State.enterOutside_own, Option.filter_filter]

/-! ### Completions with no commit number (R155 to R158) -/

/-- The completion an own record receives when it is over: one for an ordinary record, none for another
kind (R158). -/
def Own.ended (outcome : Outcome) (o : Own) : List Completion :=
  match o.what with
  | .ordinary r _ => [r.ended outcome]
  | .join | .leave | .snapshot _ => []

/-- What the drop of a chosen record posts: CANCELLED for a resend (R156). -/
def chosenCancelled : Option Own → List Completion
  | some o => if o.cond = .chosen ∧ o.won = true then o.ended .cancelled else []
  | none => []

/-- What the drop of a held record posts (R156). -/
def heldCancelled : Option Own → List Completion
  | some o => o.ended .cancelled
  | none => []

theorem Own.ended_ordinary {o : Own} {r : Request} {entry : Bool} (outcome : Outcome)
    (what : o.what = .ordinary r entry) : o.ended outcome = [r.ended outcome] := by
  simp [Own.ended, what]

theorem Own.ended_other {o : Own} (outcome : Outcome) (other : ∀ r entry, o.what ≠ .ordinary r entry) :
    o.ended outcome = [] := by
  unfold Own.ended
  split
  · rename_i r entry what
    exact absurd what (other r entry)
  all_goals rfl

theorem chosenCancelled_onBus {own : Own} (onBus : own.cond = .onBus) :
    chosenCancelled (some own) = [] := by
  simp [chosenCancelled, onBus]

theorem chosenCancelled_ordinary {own : Own} {r : Request} {entry : Bool} (chosen : own.cond = .chosen)
    (what : own.what = .ordinary r entry) :
    chosenCancelled (some own) = if own.won then [r.ended .cancelled] else [] := by
  simp [chosenCancelled, chosen, Own.ended_ordinary _ what]

theorem State.dropChosen_completions (s : State) : s.dropChosen.request.completions =
    s.request.completions ++ chosenCancelled s.request.own := by
  unfold State.dropChosen
  rcases h : s.request.own with _ | ⟨what, cond, won, f, r, cs⟩
  · simp [chosenCancelled]
  · cases cond <;> cases what <;> cases won <;> simp [chosenCancelled, Own.ended]

theorem State.dropHeld_completions (s : State) : s.dropHeld.request.completions =
    s.request.completions ++ heldCancelled s.request.held := by
  unfold State.dropHeld
  rcases h : s.request.held with _ | ⟨what, cond, won, f, r, cs⟩
  · simp [heldCancelled]
  · cases what <;> simp [heldCancelled, Own.ended]

/-- The completions an exit posts, in the order of R157. -/
theorem State.enterOutside_completions (cause : ExitCause) (last : Nat → LastCmd) (s : State) :
    (s.enterOutside cause last).request.completions = s.request.completions ++
      s.request.outcomes.map OutcomeEntry.cancelled ++ chosenCancelled s.request.own ++
      heldCancelled s.request.held := by
  have posted : (s.enterOutside cause last).request.completions =
      s.cancelOutcomes.dropChosen.dropHeld.request.completions := by
    simp [State.enterOutside]
  rw [posted, State.dropHeld_completions, State.dropChosen_completions, State.cancelOutcomes_completions]
  simp

/-! ### The end of an own record (R78, R155) -/

section
variable {s : State} {o : Own} {outcome : Outcome}

theorem State.endOwn_none (absent : s.ownOnBus = none) : s.endOwn outcome = s := by
  simp [State.endOwn, absent]

theorem State.endOwn_own (on : s.ownOnBus = some o) : (s.endOwn outcome).request.own = none := by
  unfold State.endOwn
  rw [on]
  cases h : o.what <;> simp [h]

theorem State.endOwn_completions (on : s.ownOnBus = some o) : (s.endOwn outcome).request.completions =
    s.request.completions ++ o.ended outcome := by
  unfold State.endOwn
  rw [on]
  cases h : o.what <;> simp [h, Own.ended]

theorem State.endOwn_ordinary {r : Request} {entry : Bool} (on : s.ownOnBus = some o)
    (what : o.what = .ordinary r entry) :
    s.endOwn outcome = s.clearOwn.postReserved (r.ended outcome) := by
  simp [State.endOwn, on, what]

end

/-! ### Lock loss (R58, R116) -/

/-- LOCK_LOSS at a LOCKED bus unit before the own record that was on the bus is ended: the bus unit is
off, and a JOINING station or a member has left. -/
def State.lockLost (s : State) : State :=
  let off := State.setEvent .lock { s with bus := s.bus.loseLock }
  if s.control.member || s.control.station == .joining then off.enterOutside .lockLost exitLastCmd
  else off

theorem exec_lockLoss {s : State} (locked : s.bus.locked = true) :
    exec .lockLoss s = .next (s.lockLost.endOwn .cancelled) := by
  simp [exec, execLockLoss, State.lockLost, locked]

section
variable {s : State}

theorem State.lockLost_leaves (h : s.control.member = true ∨ s.control.station = .joining) :
    s.lockLost =
      (State.setEvent .lock { s with bus := s.bus.loseLock }).enterOutside .lockLost exitLastCmd :=
  if_pos (by simpa using h)

theorem State.lockLost_stays (h : ¬ (s.control.member = true ∨ s.control.station = .joining)) :
    s.lockLost = State.setEvent .lock { s with bus := s.bus.loseLock } :=
  if_neg (by simpa using h)

/-- What the two ways of a lock loss share: the bus unit is off, its counts stay, LOCK is set, and the own
record on the bus is left for its end. -/
theorem State.lockLost_frame (s : State) :
    (s.lockLost.bus = s.bus.loseLock ∨ s.lockLost.bus = s.bus.loseLock.exit) ∧
    s.lockLost.pending = s.pending ∧ s.lockLost.ownOnBus = s.ownOnBus ∧
    s.lockLost.host.flag .lock = true := by
  have set : (State.setEvent .lock { s with bus := s.bus.loseLock }).host.flag .lock = true := by
    rw [State.setEvent_flag]; exact Bool.or_true _
  by_cases h : s.control.member = true ∨ s.control.station = .joining
  · rw [State.lockLost_leaves h, State.enterOutside_bus, State.enterOutside_pending,
      State.enterOutside_ownOnBus, State.enterOutside_flag _ _ _ _ (by decide), set]
    exact ⟨.inr rfl, rfl, rfl, rfl⟩
  · rw [State.lockLost_stays h]
    exact ⟨.inl rfl, rfl, rfl, set⟩

end

/-- Settles O7: the exit or its absence, then the end of an own record that was on the bus. -/
theorem lockLossStopsTheBusUnit : Obligations.LockLossStopsTheBusUnit := by
  intro s locked
  obtain ⟨bus, pending, onBus, lock⟩ := s.lockLost_frame
  have off : s.lockLost.bus.locked = false ∧ s.lockLost.bus.inStep = false ∧
      s.lockLost.bus.openList = [] ∧ s.lockLost.bus.inTransfer = none ∧
      s.lockLost.bus.window = none ∧ s.lockLost.bus.turn = s.bus.turn ∧
      s.lockLost.bus.commit = s.bus.commit ∧ s.lockLost.bus.joinCommit = s.bus.joinCommit ∧
      s.lockLost.bus.station = s.bus.station ∧ s.lockLost.bus.mrsDrive = false := by
    rcases bus with bus | bus <;> rw [bus] <;> exact ⟨rfl, rfl, rfl, rfl, rfl, rfl, rfl, rfl, rfl, rfl⟩
  have ended : (s.lockLost.endOwn .cancelled).bus = s.lockLost.bus := State.endOwn_bus ..
  rw [← ended] at off
  obtain ⟨unlocked, inStep, openList, transfer, window, turn, commit, join, station, mrs⟩ := off
  obtain ⟨req, pri, thr⟩ := State.requests_idle (.inl unlocked)
  obtain ⟨ack, flt⟩ := State.window_idle window
  refine ⟨_, exec_lockLoss locked, unlocked, inStep, openList, transfer, window, turn, commit, join,
    station, (State.endOwn_flag _ _ _ (by decide)).trans lock, req, pri, thr, ack, flt,
    State.transfer_idle transfer, mrs, (State.endOwn_pending ..).trans pending,
    fun own q entry present what held leaves => ?_, fun own q entry present what cond stays => ?_,
    fun leaves => ?_, fun stays => ?_⟩
  · have posted : s.lockLost.request.completions = s.request.completions ++
        s.request.outcomes.map OutcomeEntry.cancelled ++ chosenCancelled (some own) := by
      rw [State.lockLost_leaves leaves, State.enterOutside_completions]
      show _ ++ _ ++ chosenCancelled s.request.own ++ heldCancelled s.request.held = _
      rw [present, held]
      exact List.append_nil _
    rcases cond : own.cond with _ | _
    · rw [State.endOwn_none (onBus.trans (State.ownOnBus_chosen present cond)), posted,
        chosenCancelled_ordinary cond what]
      simp [Request.ended]
    · rw [State.endOwn_completions (onBus.trans (State.ownOnBus_some present cond)), posted,
        chosenCancelled_onBus cond, Own.ended_ordinary _ what]
      simp [Request.ended]
  · have on := onBus.trans (State.ownOnBus_some present cond)
    have member : ¬ (s.control.member = true ∨ s.control.station = .joining) := by
      rcases stays with h | h <;> simp [Controller.member, h]
    refine ⟨State.endOwn_own on, (State.endOwn_completions on).trans ?_⟩
    rw [State.lockLost_stays member, Own.ended_ordinary _ what]
    rfl
  · have own : (s.lockLost.endOwn .cancelled).request.own = none := by
      rcases on : s.lockLost.ownOnBus with _ | o
      · rw [State.endOwn_none on]
        rw [State.lockLost_leaves leaves] at on ⊢
        rw [State.enterOutside_own]
        rwa [State.enterOutside_ownOnBus] at on
      · exact State.endOwn_own on
    rw [own, ended, State.endOwn_control, State.endOwn_flag _ _ _ (by decide), State.endOwn_engine,
      State.endOwn_request_held, State.endOwn_request_lrq, State.endOwn_request_outcomes,
      State.endOwn_host_lastCmd, State.lockLost_leaves leaves,
      State.enterOutside_flag _ _ _ _ (by decide)]
    simp only [State.enterOutside_control, State.enterOutside_bus, State.enterOutside_engine,
      State.enterOutside_request_held, State.enterOutside_request_lrq,
      State.enterOutside_request_outcomes, State.enterOutside_host_lastCmd]
    exact ⟨rfl, rfl, by simp, rfl, trivial, trivial, trivial, trivial, rfl, rfl, rfl, rfl⟩
  · have member : ¬ (s.control.member = true ∨ s.control.station = .joining) := by
      rcases stays with h | h <;> simp [Controller.member, h]
    rw [ended, State.endOwn_control, State.endOwn_engine, State.lockLost_stays member]
    exact ⟨rfl, rfl, rfl, rfl⟩

end Sys2Proof.Machine
end


section
/-!
PROOFS. A failed ACK and the aborts of the own record (R71, R75, R78, R82, R83, R112, R115, R153, R154).
-/
namespace Sys2Proof.Machine

/-! ### Checks closed without a commit (R71, R72, R75) -/

section
variable {s : State} {ack : BitVec 8} {flt : Bool} {d : Drive} {o : OpenRecord} {rest : List OpenRecord}

/-- CHECK_WINDOW_CLOSE with a window in progress. -/
theorem exec_checkWindowClose (window : s.bus.window = some d) (openList : s.bus.openList = o :: rest) :
    exec (.checkWindowClose ack flt) s =
      .next (((s.offOpenList rest).closeAs d o ack flt).openWindow.choose) :=
  congrArg Host.Outcome.next (s.closeWindow_eq ack flt d o rest window openList)

/-- A failed ACK: the station takes itself to be dropped (R75). -/
theorem State.closeAs_drops {r : Record} (missing : lineOf ack s.me = false) :
    s.closeAs (.ack r) o ack flt = s.selfDrop o.own flt := by
  simp [State.closeAs, missing]

/-- FLT aborts the own record where the station itself was not dropped (R71, R78). -/
theorem State.closeAs_aborts (own : o.own = true)
    (drive : d = .idle ∨ d = .flt ∨ ∃ r, d = .ack r ∧ lineOf ack s.me = true) :
    s.closeAs d o ack true = s.abortOwn true := by
  rcases drive with rfl | rfl | ⟨r, rfl, there⟩
  · simp [State.closeAs, own]
  · simp [State.closeAs, own]
  · simp [State.closeAs, own, there]

end

/-! ### A failed ACK (R75, R78, R116) -/

/-- What the drop of the station itself leaves but for its own record and the completions. -/
theorem State.selfDrop_frame (s : State) (own aborted : Bool) :
    (s.selfDrop own aborted).bus = s.bus.exit ∧ (s.selfDrop own aborted).engine = s.engine.exit ∧
    (s.selfDrop own aborted).control = s.control.exit .dropped ∧
    (s.selfDrop own aborted).host.site = s.host.site ∧ (s.selfDrop own aborted).host.mask = s.host.mask ∧
    (s.selfDrop own aborted).host.find = s.host.find ∧
    (s.selfDrop own aborted).host.lastCmd = exitLastCmd s.request.lrq.length ∧
    (s.selfDrop own aborted).request.outcomes = [] ∧ (s.selfDrop own aborted).request.lrq = [] ∧
    (s.selfDrop own aborted).request.auditDue = false ∧ (s.selfDrop own aborted).request.held = none ∧
    (s.selfDrop own aborted).request.cursor = Cursor.idle ∧
    ∀ f, f ≠ .completion → (s.selfDrop own aborted).host.flag f =
      (s.host.flag f || f == .outside || (s.isDonor && f == .donation)) := by
  cases own
  · simp +contextual [State.selfDrop, State.enterOutside_flag]
  · simp +contextual [State.selfDrop, State.enterOutside_flag]

/-- The own record and the completions where the record of the window was not the station's. -/
theorem State.selfDrop_other (s : State) (aborted : Bool) :
    (s.selfDrop false aborted).request.own = s.ownOnBus ∧
    (s.selfDrop false aborted).request.completions = s.request.completions ++
      s.request.outcomes.map OutcomeEntry.cancelled ++ chosenCancelled s.request.own ++
      heldCancelled s.request.held :=
  ⟨State.enterOutside_own .., State.enterOutside_completions ..⟩

/-- With no own record on the bus it makes no difference whose the record was. -/
theorem State.selfDrop_none {s : State} (absent : s.ownOnBus = none) (own aborted : Bool) :
    s.selfDrop own aborted = s.selfDrop false aborted := by
  cases own
  · rfl
  · exact State.endOwn_none ((State.enterOutside_ownOnBus ..).trans absent)

/-- The own record of the window ends with the completion that fits (R78, R155). -/
theorem State.selfDrop_own {s : State} {o : Own} (on : s.ownOnBus = some o) (aborted : Bool) :
    (s.selfDrop true aborted).request.own = none ∧
    (s.selfDrop true aborted).request.completions = s.request.completions ++
      s.request.outcomes.map OutcomeEntry.cancelled ++ chosenCancelled s.request.own ++
      heldCancelled s.request.held ++ o.ended (if aborted then .cancelled else .void) := by
  have out : (s.enterOutside .dropped exitLastCmd).ownOnBus = some o :=
    (State.enterOutside_ownOnBus ..).trans on
  refine ⟨State.endOwn_own out, (State.endOwn_completions out).trans ?_⟩
  rw [State.enterOutside_completions]

theorem exec_checkWindowClose_drops {s : State} {ack : BitVec 8} {flt : Bool} {r : Record}
    {o : OpenRecord} {rest : List OpenRecord} (window : s.bus.window = some (.ack r))
    (openList : s.bus.openList = o :: rest) (missing : lineOf ack s.me = false) :
    exec (.checkWindowClose ack flt) s =
      .next ((s.offOpenList rest).selfDrop o.own flt).openWindow := by
  have drops : (s.offOpenList rest).closeAs (.ack r) o ack flt = (s.offOpenList rest).selfDrop o.own flt :=
    State.closeAs_drops missing
  obtain ⟨-, -, control, -⟩ := (s.offOpenList rest).selfDrop_frame o.own flt
  rw [exec_checkWindowClose window openList, drops, State.choose_of_idle_state]
  exact .inr (.inl (by rw [State.openWindow_control, control]; rfl))

/-- Settles O34: the exit of a dropped station, then its own record by its condition and its kind. -/
theorem missingAckDropsTheStation : Obligations.MissingAckDropsTheStation := by
  intro ack flt r o rest s window openList missing cancelled ended
  refine ⟨_, exec_checkWindowClose_drops window openList missing, ?_⟩
  obtain ⟨bus, engine, control, site, mask, find, last, outcomes, lrq, due, held, cursor, flags⟩ :=
    (s.offOpenList rest).selfDrop_frame o.own flt
  rw [State.openWindow_bus_eq, State.openWindow_control, State.openWindow_engine,
    State.openWindow_request, State.openWindow_host, bus, control, engine, site, mask, find, last,
    outcomes, lrq, due, held, cursor, flags _ (by decide), flags _ (by decide), flags _ (by decide)]
  refine ⟨rfl, rfl, rfl, rfl, rfl, rfl, rfl, Roster.allAbsent_getElem, rfl, rfl, rfl, rfl, rfl, rfl, rfl,
    rfl, rfl, rfl, rfl, rfl, rfl, rfl, rfl, by simp, fun donor => ?_, ?_, fun noOwn held => ?_,
    fun own present cond => ?_, fun own q entry present cond what held => ?_,
    fun own present cond mine held => ?_, fun own q entry present cond mine what held => ?_,
    fun own present cond mine what held => ?_, fun held q entry noOwn present what => ?_⟩
  · have : (s.offOpenList rest).isDonor = true := donor
    simp [this]
  · rw [show (Event.freeze == .donation) = false from rfl, Bool.and_false]
    exact (Bool.or_false _).trans (Bool.or_false _)
  · have absent : (s.offOpenList rest).ownOnBus = none := State.ownOnBus_none noOwn
    obtain ⟨own, completions⟩ := (s.offOpenList rest).selfDrop_other flt
    rw [State.selfDrop_none absent, own, completions]
    refine ⟨absent, ?_⟩
    show _ ++ _ ++ chosenCancelled s.request.own ++ heldCancelled s.request.held = _
    rw [noOwn, held]
    simp [chosenCancelled, heldCancelled, cancelled, State.offOpenList]
  · have absent : (s.offOpenList rest).ownOnBus = none := State.ownOnBus_chosen present cond
    rw [State.selfDrop_none absent, (State.selfDrop_other _ _).1, absent]
  · have absent : (s.offOpenList rest).ownOnBus = none := State.ownOnBus_chosen present cond
    rw [State.selfDrop_none absent, (State.selfDrop_other _ _).2]
    show _ ++ _ ++ chosenCancelled s.request.own ++ heldCancelled s.request.held = _
    rw [present, held, chosenCancelled_ordinary cond what]
    exact List.append_nil _
  · obtain ⟨own_, completions⟩ := (s.offOpenList rest).selfDrop_other flt
    rw [mine, own_, completions]
    refine ⟨State.ownOnBus_some present cond, ?_⟩
    show _ ++ _ ++ chosenCancelled s.request.own ++ heldCancelled s.request.held = _
    rw [present, held, chosenCancelled_onBus cond]
    simp [heldCancelled, cancelled, State.offOpenList]
  · obtain ⟨own_, completions⟩ := State.selfDrop_own (s := s.offOpenList rest)
      (State.ownOnBus_some present cond) flt
    rw [mine, own_, completions]
    refine ⟨rfl, ?_⟩
    show _ ++ _ ++ chosenCancelled s.request.own ++ heldCancelled s.request.held ++ _ = _
    rw [present, held, chosenCancelled_onBus cond, Own.ended_ordinary _ what]
    simp [heldCancelled, cancelled, ended, Request.ended, State.offOpenList]
  · obtain ⟨own_, completions⟩ := State.selfDrop_own (s := s.offOpenList rest)
      (State.ownOnBus_some present cond) flt
    rw [mine, own_, completions]
    refine ⟨rfl, ?_⟩
    show _ ++ _ ++ chosenCancelled s.request.own ++ heldCancelled s.request.held ++ _ = _
    rw [present, held, chosenCancelled_onBus cond, Own.ended_other _ what]
    simp [heldCancelled, cancelled, State.offOpenList]
  · have absent : (s.offOpenList rest).ownOnBus = none := State.ownOnBus_none noOwn
    rw [State.selfDrop_none absent, (State.selfDrop_other _ _).2]
    show _ ++ _ ++ chosenCancelled s.request.own ++ heldCancelled s.request.held = _
    rw [noOwn, present]
    simp [chosenCancelled, heldCancelled, Own.ended_ordinary _ what, Request.ended, cancelled, ended,
      State.offOpenList]

end Sys2Proof.Machine
end


section
/-!
PROOFS. The aborts of the own record by FLT and by a restart episode, and the episode's course (R71, R82,
R83, R112, R115, R153 to R155).
-/
namespace Sys2Proof.Machine

/-! ### The counts of an own record (R153, R154) -/

/-- An aborted own record as it is offered again. -/
def Own.again (fault : Bool) (o : Own) : Own := { o.countAbort fault with cond := .chosen }

/-- The second fault abort gives a record up. -/
theorem Own.givenUp_fault (o : Own) : (o.countAbort true).givenUp true = true ↔ 1 ≤ o.faults := by
  simp [Own.givenUp, Own.countAbort, Config.faultLimit]

/-- The fourth consecutive restart abort gives a record up. -/
theorem Own.givenUp_restart (o : Own) :
    (o.countAbort false).givenUp false = true ↔ 3 ≤ o.restarts := by
  simp [Own.givenUp, Own.countAbort, Config.restartLimit]

theorem Own.stays_fault (o : Own) (first : o.faults = 0) : (o.countAbort true).givenUp true = false := by
  rw [← Bool.not_eq_true, o.givenUp_fault, first]; decide

theorem Own.stays_restart (o : Own) (few : o.restarts < 3) :
    (o.countAbort false).givenUp false = false := by
  rw [← Bool.not_eq_true, o.givenUp_restart]; omega

theorem Own.again_fault {o : Own} (first : o.faults = 0) :
    o.again true = { o with cond := .chosen, faults := 1, restarts := 0 } := by
  simp [Own.again, Own.countAbort, first]

/-! ### The choice that follows -/

/-- An ACTIVE station chooses nothing under a freeze (R147). -/
theorem State.choose_frozen {s : State} (active : s.control.station = .active) (freeze : s.freeze = true) :
    s.choose = s := by
  simp [State.choose, active, freeze]

/-- The window that opens takes no part in the choice (R147). -/
theorem State.openWindow_choose_request (s : State) :
    s.openWindow.choose.request = s.choose.request := by
  have freeze : s.openWindow.freeze = s.freeze := by
    rw [State.freeze, State.openWindow_bus_syncList, State.freeze]
  simp only [State.choose, State.chooseOrdinary, State.setOwn, State.openWindow_request,
    State.openWindow_control, freeze]
  repeat' split
  all_goals simp only [State.openWindow_request]

/-- An own record that a freeze holds back (R153, R154). -/
def State.holdOwn (o : Own) (s : State) : State :=
  { s with request := { s.request with own := none, held := some o } }

/-! ### What an abort does (R71, R112, R115, R153 to R155) -/

section
variable {s : State} {o : Own} (fault : Bool)

theorem State.abortOwn_none (absent : s.ownOnBus = none) : s.abortOwn fault = s := by
  simp [State.abortOwn, absent]

/-- The record of an ordinary request at a station that has left the group (R155). -/
theorem State.abortOwn_left {r : Request} {entry : Bool} (on : s.ownOnBus = some o)
    (what : o.what = .ordinary r entry) (left : s.control.member = false) :
    s.abortOwn fault = s.clearOwn.postReserved (r.ended .cancelled) := by
  simp [State.abortOwn, on, what, left]

/-- The record of an ordinary request at an ACTIVE station. -/
theorem State.abortOwn_ordinary {r : Request} {entry : Bool} (on : s.ownOnBus = some o)
    (what : o.what = .ordinary r entry) (active : s.control.station = .active) :
    s.abortOwn fault =
      if (o.countAbort fault).givenUp fault then s.clearOwn.postReserved (r.ended .failedBus)
      else if s.freeze then s.holdOwn (o.again fault)
      else s.setOwn (o.again fault) := by
  simp [State.abortOwn, State.resendOrdinary, on, what, active, Controller.member, Own.again,
    State.holdOwn]

theorem State.abortOwn_leave (on : s.ownOnBus = some o) (what : o.what = .leave)
    (leaving : s.control.station = .leaving) : s.abortOwn fault =
      if (o.countAbort fault).givenUp fault then
        s.clearOwn.enterOutside s.control.leaveReason.exitCause exitLastCmd
      else s.setOwn (o.again fault) := by
  simp [State.abortOwn, on, what, leaving, Own.again]

theorem State.abortOwn_join (on : s.ownOnBus = some o) (what : o.what = .join)
    (joining : s.control.station = .joining) : s.abortOwn fault =
      if s.control.leaveHeld = true ∨ (o.countAbort fault).givenUp fault = true then
        s.clearOwn.enterOutside (if s.control.leaveHeld then .left else .joinFailed) exitLastCmd
      else s.setOwn (o.again fault) := by
  rcases held : s.control.leaveHeld with _ | _
  · simp [State.abortOwn, on, what, joining, held, Own.again]
  · simp [State.abortOwn, on, what, joining, held]

theorem State.abortOwn_snapshot {b : Body} (on : s.ownOnBus = some o) (what : o.what = .snapshot b) :
    s.abortOwn fault = s.clearOwn := by
  simp [State.abortOwn, on, what]

end

/-- A state in which an own record, offered again, is all that has changed. -/
def OffersAgain (s t : State) (o : Own) : Prop :=
  t.control = s.control ∧ t.engine = s.engine ∧ t.host = s.host ∧
    t.request = { s.request with own := some o }

/-- A station that has left the group with its own record given up (R112, R115, R157). -/
def GivesUp (s t : State) (cause : ExitCause) : Prop :=
  t.control = s.control.exit cause ∧ t.request.own = none ∧ t.request.completions =
    s.request.completions ++ s.request.outcomes.map OutcomeEntry.cancelled

section
variable {s t : State} {o : Own} {fault : Bool}

/-- `t` is `x` after the choice that follows, the bus unit apart. -/
structure State.ChosenAfter (x t : State) : Prop where
  control : t.control = x.control
  engine : t.engine = x.engine
  host : t.host = x.host
  request : t.request = x.choose.request

theorem State.ChosenAfter.choose (x : State) : x.ChosenAfter x.choose :=
  ⟨x.choose_control, x.choose_engine, x.choose_host, rfl⟩

theorem State.ChosenAfter.openWindow (x : State) : x.ChosenAfter x.openWindow.choose :=
  ⟨by simp, by simp, by simp, x.openWindow_choose_request⟩

theorem State.ChosenAfter.offersAgain {x : State} (h : x.ChosenAfter t) (again : x = s.setOwn o) :
    OffersAgain s t o := by
  subst again
  refine ⟨h.control, h.engine, h.host, h.request.trans ?_⟩
  rw [State.choose_of_own _ (by simp)]
  rfl

theorem State.ChosenAfter.givesUp {x : State} {cause : ExitCause} (h : x.ChosenAfter t)
    (held : s.request.held = none) (exit : x = s.clearOwn.enterOutside cause exitLastCmd) :
    GivesUp s t cause := by
  subst exit
  have control : t.control = s.control.exit cause := h.control.trans (by rw [State.enterOutside_control]; rfl)
  have request : t.request = (s.clearOwn.enterOutside cause exitLastCmd).request :=
    h.request.trans (by rw [State.choose_of_idle_state _ (.inr (.inl (by
      rw [State.enterOutside_control]; rfl)))])
  refine ⟨control, ?_, ?_⟩
  · rw [request, State.enterOutside_own]; rfl
  · rw [request, State.enterOutside_completions]
    simp [held, chosenCancelled, heldCancelled]

/-- An ordinary record aborted at an ACTIVE station: offered again, held, or FAILED_BUS (R153, R154). -/
theorem abort_ordinary {r : Request} {entry : Bool} (on : s.ownOnBus = some o)
    (what : o.what = .ordinary r entry) (active : s.control.station = .active)
    (h : (s.abortOwn fault).ChosenAfter t) :
    (s.abortOwn fault).bus = s.bus ∧ t.control = s.control ∧ t.engine = s.engine ∧
    ((o.countAbort fault).givenUp fault = false → s.freeze = false →
      t.request = { s.request with own := some (o.again fault) }) ∧
    ((o.countAbort fault).givenUp fault = false → s.freeze = true →
      t.request = { s.request with own := none, held := some (o.again fault) }) ∧
    ((o.countAbort fault).givenUp fault = true →
      t.request.completions = s.request.completions ++ [r.ended .failedBus] ∧
      t.host.flag .completion = true) := by
  have aborts := State.abortOwn_ordinary fault on what active
  have frame : (s.abortOwn fault).bus = s.bus ∧ (s.abortOwn fault).control = s.control ∧
      (s.abortOwn fault).engine = s.engine := by
    rw [aborts]
    split
    · exact ⟨rfl, rfl, rfl⟩
    · split <;> exact ⟨rfl, rfl, rfl⟩
  obtain ⟨bus, control, engine⟩ := frame
  refine ⟨bus, h.control.trans control, h.engine.trans engine, fun again free => ?_, fun again frozen => ?_,
    fun up => ?_⟩
  · rw [again, free] at aborts
    exact (h.offersAgain aborts).2.2.2
  · rw [again, frozen] at aborts
    have holds : s.abortOwn fault = s.holdOwn (o.again fault) := aborts
    rw [holds] at h
    exact h.request.trans (congrArg State.request
      (State.choose_frozen (s := s.holdOwn (o.again fault)) active frozen))
  · rw [up] at aborts
    rw [aborts] at h
    refine ⟨?_, ?_⟩
    · rw [h.request, State.choose_request_completions]; rfl
    · rw [h.host]
      exact (State.postReserved_flag ..).trans (Bool.or_true _)

/-- A LEAVE aborted at a LEAVING station: offered again, or the exit (R115). -/
theorem abort_leave (on : s.ownOnBus = some o) (what : o.what = .leave)
    (leaving : s.control.station = .leaving) (held : s.request.held = none)
    (h : (s.abortOwn fault).ChosenAfter t) :
    ((o.countAbort fault).givenUp fault = false → OffersAgain s t (o.again fault)) ∧
    ((o.countAbort fault).givenUp fault = true → GivesUp s t s.control.leaveReason.exitCause) := by
  have aborts := State.abortOwn_leave fault on what leaving
  refine ⟨fun again => ?_, fun up => ?_⟩
  · exact h.offersAgain (aborts.trans (if_neg (by simp [again])))
  · exact h.givesUp held (aborts.trans (if_pos up))

/-- A JOIN aborted at a JOINING station: offered again, or the exit (R109, R112). -/
theorem abort_join (on : s.ownOnBus = some o) (what : o.what = .join)
    (joining : s.control.station = .joining) (held : s.request.held = none)
    (h : (s.abortOwn fault).ChosenAfter t) :
    (s.control.leaveHeld = false → (o.countAbort fault).givenUp fault = false →
      OffersAgain s t (o.again fault)) ∧
    (s.control.leaveHeld = true ∨ (o.countAbort fault).givenUp fault = true →
      GivesUp s t (if s.control.leaveHeld then .left else .joinFailed)) := by
  have aborts := State.abortOwn_join fault on what joining
  refine ⟨fun stays again => ?_, fun up => ?_⟩
  · exact h.offersAgain (aborts.trans (if_neg (by simp [stays, again])))
  · exact h.givesUp held (aborts.trans (if_pos up))

/-- A snapshot record aborted at a frozen station is gone: the donor builds it anew (R129). -/
theorem abort_snapshot {b : Body} (on : s.ownOnBus = some o) (what : o.what = .snapshot b)
    (active : s.control.station = .active) (frozen : s.freeze = true)
    (h : (s.abortOwn fault).ChosenAfter t) :
    t.control = s.control ∧ t.engine = s.engine ∧ t.request = { s.request with own := none } := by
  rw [State.abortOwn_snapshot fault on what] at h
  refine ⟨h.control, h.engine, h.request.trans ?_⟩
  rw [State.choose_frozen (s := s.clearOwn) active frozen]
  rfl

end

/-- A commit number outlives every abort. -/
theorem State.abortOwn_commit (s : State) (fault : Bool) : (s.abortOwn fault).bus.commit = s.bus.commit := by
  rcases s.abortOwn_bus fault with bus | ⟨bus, -⟩
  · rw [bus]
  · rw [bus]; rfl

/-- A restart episode's clearing of the uncommitted records (R82). -/
def State.episodeCleared (s : State) : State :=
  { s with bus := { s.bus with openList := [], inTransfer := none, window := none, restart := true } }

theorem exec_restartEpisodeBegin {s : State} (locked : s.bus.locked = true) :
    exec .restartEpisodeBegin s = .next (s.episodeCleared.abortOwn false).choose := by
  simp [exec, execRestartEpisodeBegin, State.restartBegin, State.episodeCleared, locked]

/-- Settles O37: by the kind of the aborted record, at a window's close and at a restart episode. -/
theorem abortsResendThenFail : Obligations.AbortsResendThenFail := by
  refine ⟨fun ack d own o rest s window drive openList mine present cond held => ?_,
    fun ack own o rest s window openList mine present what cond joining held => ?_,
    fun own q entry s locked active present what cond held => ?_⟩
  · have on : (s.offOpenList rest).ownOnBus = some own := State.ownOnBus_some present cond
    have after := State.ChosenAfter.openWindow ((s.offOpenList rest).abortOwn true)
    have aborts : (s.offOpenList rest).closeAs d o ack true = (s.offOpenList rest).abortOwn true :=
      State.closeAs_aborts mine (.inr drive)
    refine ⟨_, (exec_checkWindowClose window openList).trans (by rw [aborts]), ?_,
      fun q entry what active => ?_, fun what leaving => ?_, fun b what active frozen => ?_⟩
    · rw [State.choose_bus, State.openWindow_bus_commit, State.abortOwn_commit]; rfl
    · obtain ⟨bus, control, engine, free, frozen, failed⟩ := abort_ordinary on what active after
      refine ⟨control, engine, ?_, ?_, fun first thaw => ?_, fun first freeze => ?_, fun again => ?_⟩
      · rw [State.choose_bus, State.openWindow_bus_roster, bus]; rfl
      · rw [State.choose_bus, State.openWindow_bus_applyQueue, bus]; rfl
      · rw [← Own.again_fault first]
        exact free (own.stays_fault first) thaw
      · rw [← Own.again_fault first]
        exact frozen (own.stays_fault first) freeze
      · exact failed (own.givenUp_fault.mpr again)
    · obtain ⟨offers, exits⟩ := abort_leave on what leaving held after
      refine ⟨fun first => ?_, fun again => ?_⟩
      · obtain ⟨control, engine, -, request⟩ :=
          offers (own.stays_fault first)
        exact ⟨control, engine, by rw [← Own.again_fault first]; exact request⟩
      · obtain ⟨control, own_, completions⟩ := exits (own.givenUp_fault.mpr again)
        rw [control]
        exact ⟨rfl, rfl, own_, completions⟩
    · exact abort_snapshot (s := s.offOpenList rest) on what active frozen after
  · have on : (s.offOpenList rest).ownOnBus = some own := State.ownOnBus_some present cond
    have aborts : (s.offOpenList rest).closeAs .idle o ack true = (s.offOpenList rest).abortOwn true :=
      State.closeAs_aborts mine (.inl rfl)
    obtain ⟨offers, exits⟩ := abort_join on what joining held (fault := true) (State.ChosenAfter.openWindow _)
    refine ⟨_, (exec_checkWindowClose window openList).trans (by rw [aborts]), ?_,
      fun stays first => ?_, fun up => ?_⟩
    · rw [State.choose_bus, State.openWindow_bus_commit, State.abortOwn_commit]; rfl
    · obtain ⟨control, engine, -, request⟩ :=
        offers stays (own.stays_fault first)
      exact ⟨control, engine, by rw [← Own.again_fault first]; exact request⟩
    · obtain ⟨control, own_, completions⟩ := exits (up.imp_right own.givenUp_fault.mpr)
      rw [control]
      exact ⟨rfl, rfl, rfl, own_, completions⟩
  · have on : s.episodeCleared.ownOnBus = some own := State.ownOnBus_some present cond
    obtain ⟨bus, control, engine, free, frozen, failed⟩ :=
      abort_ordinary on what active (fault := false) (State.ChosenAfter.choose _)
    refine ⟨_, exec_restartEpisodeBegin locked, ?_, engine, control, fun few thaw => ?_,
      fun few freeze => ?_, fun many => ?_⟩
    · rw [State.choose_bus, bus]; rfl
    · exact free (own.stays_restart few) thaw
    · exact frozen (own.stays_restart few) freeze
    · exact failed (own.givenUp_restart.mpr many)

/-! ### Own records that outlive an exit (R155) -/

/-- The end of an ordinary record's window at a station OUTSIDE or JOINING, with FLT or without. -/
theorem State.closeAs_outlived {s : State} {own : Own} {q : Request} {entry : Bool} {o : OpenRecord}
    (left : s.control.member = false) (mine : o.own = true) (on : s.ownOnBus = some own)
    (what : own.what = .ordinary q entry) (ack : BitVec 8) (flt : Bool) :
    s.closeAs .idle o ack flt = s.clearOwn.postReserved (q.ended .cancelled) := by
  rcases flt with _ | _
  · simp [State.closeAs, mine, on, what, State.endOwn_ordinary on what]
  · simp [State.closeAs, mine, State.abortOwn_left true on what left]

/-- The bus unit as a restart episode begins, before the choice (R82). -/
theorem State.episodeBegin_bus (s : State) :
    (s.episodeCleared.abortOwn false).choose.bus = s.episodeCleared.bus ∨
    (s.episodeCleared.abortOwn false).choose.bus = s.episodeCleared.bus.exit := by
  rw [State.choose_bus]
  exact (s.episodeCleared.abortOwn_bus false).imp_right And.left

/-- Within an episode no REQ and no PRI is asserted (R62, R63). -/
theorem State.requests_episode {s : State} (restart : s.bus.restart = true) :
    s.reqDriven = false ∧ s.priDriven = false := by
  have req : s.reqDriven = false := by simp [State.reqDriven, restart]
  exact ⟨req, by simp [State.priDriven, req]⟩

/-- With no own record on the bus the begin of an episode aborts nothing (R82). -/
theorem State.episodeBegin_none {s : State} (absent : s.ownOnBus = none) :
    s.episodeCleared.abortOwn false = s.episodeCleared :=
  State.abortOwn_none (s := s.episodeCleared) false absent

/-- Where there is an own record, and where none may be chosen, the begin of an episode leaves the request
unit as it is. -/
theorem State.episodeCleared_choose {s : State} (stays : s.request.own ≠ none ∨
    s.control.station = .config ∨ s.control.station = .outside ∨ s.control.station = .syncing ∨
    s.control.station = .active ∧ s.freeze = true) : s.episodeCleared.choose = s.episodeCleared := by
  rcases stays with own | config | outside | syncing | ⟨active, frozen⟩
  · exact State.choose_of_own _ own
  · exact State.choose_of_idle_state _ (.inl config)
  · exact State.choose_of_idle_state _ (.inr (.inl outside))
  · exact State.choose_of_idle_state _ (.inr (.inr syncing))
  · exact State.choose_frozen active frozen

/-- Settles O39: the begin of an episode by the own record, the records it outlives, and its end. -/
theorem restartEpisodeRunsItsCourse : Obligations.RestartEpisodeRunsItsCourse := by
  refine ⟨fun s locked => ⟨_, exec_restartEpisodeBegin locked, ?_⟩,
    fun ack flt own q entry o rest s station window openList mine present what cond => ?_,
    fun s => ⟨_, rfl, rfl, rfl⟩, fun s mrs => ⟨fun locked => ?_, fun unlocked => ?_⟩⟩
  · have bus : (s.episodeCleared.abortOwn false).choose.bus.openList = [] ∧
        (s.episodeCleared.abortOwn false).choose.bus.inTransfer = none ∧
        (s.episodeCleared.abortOwn false).choose.bus.window = none ∧
        (s.episodeCleared.abortOwn false).choose.bus.restart = true ∧
        (s.episodeCleared.abortOwn false).choose.bus.commit = s.bus.commit := by
      rcases s.episodeBegin_bus with bus | bus <;> rw [bus] <;> exact ⟨rfl, rfl, rfl, rfl, rfl⟩
    obtain ⟨openList, transfer, window, restart, commit⟩ := bus
    obtain ⟨req, pri⟩ := State.requests_episode restart
    obtain ⟨ack, flt⟩ := State.window_idle window
    refine ⟨req, pri, ack, flt, State.transfer_idle transfer, by simp; rfl, openList, transfer, window,
      restart, commit, fun absent => ?_, fun own present cond held => ?_⟩
    · rw [State.episodeBegin_none absent, State.choose_bus, State.choose_engine, State.choose_control,
        State.choose_host, State.choose_request_lrq, State.choose_request_outcomes,
        State.choose_request_completions, State.choose_request_cursor]
      refine ⟨rfl, rfl, rfl, rfl, rfl, rfl, rfl, rfl, fun stays => ?_⟩
      rw [State.episodeCleared_choose stays]; rfl
    · have on : s.episodeCleared.ownOnBus = some own := State.ownOnBus_some present cond
      have after := State.ChosenAfter.choose (s.episodeCleared.abortOwn false)
      refine ⟨fun kind few => ?_, fun what joining up => ?_, fun what leaving many => ?_,
        fun b what active frozen =>
          abort_snapshot (s := s.episodeCleared) on what active frozen after,
        fun q entry what outside => ?_⟩
      · rcases kind with ⟨what, joining, stays⟩ | ⟨what, leaving⟩
        · exact (abort_join on what joining held after).1 stays (own.stays_restart few)
        · exact (abort_leave on what leaving held after).1 (own.stays_restart few)
      · obtain ⟨control, own_, completions⟩ :=
          (abort_join on what joining held after).2 (up.imp_right own.givenUp_restart.mpr)
        rw [control]
        exact ⟨rfl, rfl, own_, completions⟩
      · obtain ⟨control, own_, completions⟩ :=
          (abort_leave on what leaving held after).2 (own.givenUp_restart.mpr many)
        rw [control]
        exact ⟨rfl, rfl, own_, completions⟩
      · have left : s.episodeCleared.control.member = false := by
          show s.control.member = false
          simp [Controller.member, outside]
        have idle : (s.episodeCleared.clearOwn.postReserved (q.ended .cancelled)).choose =
            s.episodeCleared.clearOwn.postReserved (q.ended .cancelled) :=
          State.choose_of_idle_state _ (.inr (.inl outside))
        rw [State.abortOwn_left false on what left, idle]
        exact ⟨rfl, rfl, rfl⟩
  · have left : (s.offOpenList rest).control.member = false := by
      show s.control.member = false
      rcases station with h | h <;> simp [Controller.member, h]
    have on : (s.offOpenList rest).ownOnBus = some own := State.ownOnBus_some present cond
    have after := State.ChosenAfter.openWindow
      ((s.offOpenList rest).clearOwn.postReserved (q.ended .cancelled))
    have outside : s.control.station = .outside →
        ((s.offOpenList rest).clearOwn.postReserved (q.ended .cancelled)).choose =
          (s.offOpenList rest).clearOwn.postReserved (q.ended .cancelled) := fun h =>
      State.choose_of_idle_state _ (.inr (.inl h))
    have joining : s.control.station = .joining →
        ((s.offOpenList rest).clearOwn.postReserved (q.ended .cancelled)).choose =
          ((s.offOpenList rest).clearOwn.postReserved (q.ended .cancelled)).setOwn (Own.fresh .join) :=
      fun h => State.choose_joining _ h rfl
    refine ⟨_, (exec_checkWindowClose window openList).trans
      (by rw [State.closeAs_outlived left mine on what]), after.control, after.engine, ?_, ?_, ?_, ?_,
      fun h => ?_, fun h => ?_⟩
    · rw [State.choose_bus, State.openWindow_bus_eq]; rfl
    · rw [after.request, State.choose_request_completions]; rfl
    · rcases station with h | h
      · rw [after.request, outside h]; rfl
      · rw [after.request, joining h]; rfl
    · rw [after.host]
      exact (State.postReserved_flag ..).trans (Bool.or_true _)
    · rw [after.request, outside h]; rfl
    · rw [after.request, joining h]; rfl
  · have ends : exec .restartEpisodeEnd s = .next (State.setEvent .restart { s with bus := { s.bus with
        turn := 7, inStep := true, restart := false } }) := by
      simp [exec, execRestartEpisodeEnd, State.restartEnd, locked, mrs, Config.turnReset]
    exact ⟨_, ends, rfl, rfl, rfl, rfl, rfl, rfl⟩
  · simp [exec, execRestartEpisodeEnd, State.restartEnd, unlocked]

end Sys2Proof.Machine
end


section
/-!
PROOFS. Another station's record at the close of its window (R69 to R74, R98, R104, R105, R113): the abort
that changes nothing, and what a commit takes, numbers and hands on.
-/
namespace Sys2Proof.Machine

/-! ### The window that opens next (R69, R70) -/

/-- With no window in progress the head of the open list gets its window. -/
theorem State.openWindow_next {s : State} (window : s.bus.window = none) :
    s.openWindow.bus.window = s.bus.openList.head?.map (driveFor s) := by
  rw [State.openWindow_window, window]

/-- What is driven for another's record, or beside an own record on the bus, waits for no choice. -/
theorem driveFor_choose {s t : State} {o : OpenRecord} (bus : t.bus = { s.bus with window := t.bus.window })
    (control : t.control = s.control) (site : t.host.site = s.host.site)
    (own : o.own = false ∨ t.request.own = s.request.own) : driveFor t o = driveFor s o := by
  refine driveFor_congr ?_ ?_ ?_ ?_ ?_ ?_ control site own <;> rw [bus]

/-- Settles O31: the record leaves the open list, the next window opens, and no more. -/
theorem abortChangesNothingCommitted : Obligations.AbortChangesNothingCommitted := by
  intro ack d o rest s window openList other there
  have aborts : (s.offOpenList rest).closeAs d o ack true = s.offOpenList rest := by
    rcases d with _ | _ | r
    · simp [State.closeAs, other]
    · have me : lineOf ack (s.offOpenList rest).me = true := there _ rfl
      simp [State.closeAs, other, me]
    · simp [State.closeAs, other]
  have drives : driveFor (s.offOpenList rest) = driveFor s := funext fun next =>
    driveFor_congr rfl rfl rfl rfl rfl rfl rfl rfl (.inr rfl)
  refine ⟨_, (exec_checkWindowClose window openList).trans (by rw [aborts]), ?_⟩
  rw [State.choose_bus, State.openWindow_bus_eq, State.openWindow_next rfl, drives]
  refine ⟨rfl, rfl, by simp; rfl, by simp; rfl, by simp; rfl, by simp; rfl, by simp; rfl, by simp; rfl,
    by simp; rfl, fun own => ?_⟩
  have stays : (s.offOpenList rest).choose = s.offOpenList rest := State.choose_of_own _ own
  rw [State.openWindow_choose_request, stays]
  rfl

/-! ### What arrives and what is handed on (R25, R74, R113, R151) -/

/-- No own record waits for its round: there is none, or it is on the bus. -/
def State.OwnSettled (s : State) : Prop := ∀ o, s.request.own = some o → o.cond = .onBus

theorem State.discardBuilt_of_settled {s : State} (settled : s.OwnSettled) : s.discardBuilt = s := by
  unfold State.discardBuilt
  split
  · rename_i o own
    rw [settled o own]
  · rfl

theorem State.freezeBegins_of_settled {s : State} (settled : s.OwnSettled) : s.freezeBegins = s := by
  unfold State.freezeBegins
  split
  · rename_i o own
    rw [settled o own]
  · rfl

theorem State.arrive_bus (e : ApplyEntry) (s : State) :
    (s.arrive e).bus = { s.bus with applyQueue := s.bus.applyQueue ++ [e] } := by
  unfold State.arrive
  rw [State.discardBuilt_bus, State.yieldScan_bus]

theorem State.arrive_request {s : State} (settled : s.OwnSettled) (e : ApplyEntry) :
    (s.arrive e).request = s.request := by
  have same : (State.yieldScan { s with bus := { s.bus with
      applyQueue := s.bus.applyQueue ++ [e] } }).request = s.request := State.yieldScan_request _
  unfold State.arrive
  rw [State.discardBuilt_of_settled (by rwa [State.OwnSettled, same]), same]

/-- A running scan that yields sets FIND_DONE and no other flag (R53). -/
theorem State.arrive_flag (e : ApplyEntry) (f : Event) (other : f ≠ .findDone) (s : State) :
    (s.arrive e).host.flag f = s.host.flag f := by
  unfold State.arrive State.yieldScan
  rw [State.discardBuilt_host]
  split
  · split
    · unfold State.endScan
      rw [State.setEvent_flag]
      simp [other]
    · rfl
  · rfl

/-- A station not treated as SYNCING has no phase to move. -/
theorem State.phaseAt_of_synced {s : State} (synced : s.control.inSyncing = false) (r : Record)
    (number : CommitNo) (isVoid : Bool) : s.phaseAt r number isVoid = s := by
  simp [State.phaseAt, synced]

/-- The state in which a commit has been numbered, its entry has arrived and its phase is taken; the
request unit is yet to be told (R72, R74). -/
def State.numbered (r : Record) (ack : BitVec 8) (s : State) : State :=
  let c := commitOf s r ack
  State.phaseAt r c.number c.isVoid (State.arrive (c.entry r s.bus.syncList) { s with
    bus := { s.bus with
      commit := c.number, roster := c.after.roster, syncList := c.after.list
      tracker := trackerAt s r c }
    control := s.control.timerAt r })

/-- What a commit hands on once it is numbered in `n`: the donor's cursor, a freeze that begins, and the
flags FREEZE and DONATION (R74, R76, R124, R151). -/
def State.handOn (r : Record) (installs : Bool) (s n : State) : State :=
  let donating := n.cursorAt r s.isDonor s.bus.syncList
  let frozen := if !s.freeze && donating.freeze then donating.freezeBegins else donating
  (frozen.setEventIf (s.freeze != frozen.freeze || (installs && frozen.freeze)) .freeze).setEventIf
    (s.isDonor != frozen.isDonor) .donation

/-- Another's record at a station that stays in the group. -/
theorem State.commitMember_other {s : State} {r : Record} {ack : BitVec 8}
    (stays : exitAt s false (commitOf s r ack) = none) : s.commitMember r false ack =
      s.handOn r ((carriedHead s r).isSome && !(commitOf s r ack).isVoid) (s.numbered r ack) := by
  unfold State.commitMember
  simp only [stays]
  rfl

section
variable {s n : State} {r : Record} {installs : Bool}

/-- The two ways to hand on: with the beginning of a freeze, or without. -/
theorem State.handOn_frame (s n : State) (r : Record) (installs : Bool) :
    (s.handOn r installs n).bus = n.bus ∧ (s.handOn r installs n).engine = n.engine ∧
    (s.handOn r installs n).control = n.control ∧ (s.handOn r installs n).host.lastCmd = n.host.lastCmd ∧
    (s.handOn r installs n).request.lrq = n.request.lrq ∧
    (s.handOn r installs n).request.outcomes = n.request.outcomes ∧
    (s.handOn r installs n).request.completions = n.request.completions := by
  unfold State.handOn
  extract_lets donating frozen
  have frame : frozen.bus = n.bus ∧ frozen.engine = n.engine ∧ frozen.control = n.control ∧
      frozen.host = n.host ∧ frozen.request.lrq = n.request.lrq ∧
      frozen.request.outcomes = n.request.outcomes ∧
      frozen.request.completions = n.request.completions := by
    unfold frozen
    split <;> simp [donating]
  obtain ⟨bus, engine, control, host, lrq, outcomes, completions⟩ := frame
  simp [bus, engine, control, host, lrq, outcomes, completions]

/-- The own record and all beside it, but for the cursor, where no own record waits for its round. -/
theorem State.handOn_request (settled : n.OwnSettled) (s : State) (r : Record) (installs : Bool) :
    (s.handOn r installs n).request = { n.request with cursor := (s.handOn r installs n).request.cursor } := by
  have donating : n.cursorAt r s.isDonor s.bus.syncList = { n with request := { n.request with
      cursor := (n.cursorAt r s.isDonor s.bus.syncList).request.cursor } } := by
    unfold State.cursorAt
    dsimp only
    repeat' split
    all_goals rfl
  have frozen : (n.cursorAt r s.isDonor s.bus.syncList).freezeBegins =
      n.cursorAt r s.isDonor s.bus.syncList := by
    refine State.freezeBegins_of_settled fun o own => settled o ?_
    rwa [State.cursorAt_request_own] at own
  unfold State.handOn
  simp only [frozen, ite_self, State.setEventIf_request]
  rw [donating]

theorem State.handOn_flag (s n : State) (r : Record) (installs : Bool) (f : Event) :
    (s.handOn r installs n).host.flag f = (n.host.flag f ||
      ((s.freeze != n.freeze || (installs && n.freeze)) && f == .freeze) ||
      ((s.isDonor != n.isDonor) && f == .donation)) := by
  unfold State.handOn
  extract_lets donating frozen
  have frame : frozen.bus = n.bus ∧ frozen.host = n.host := by
    unfold frozen
    split <;> simp [donating]
  obtain ⟨bus, host⟩ := frame
  have freeze : frozen.freeze = n.freeze := by rw [State.freeze, bus, State.freeze]
  have donor : frozen.isDonor = n.isDonor := by
    rw [State.isDonor, State.me, bus, State.isDonor, State.me]
  rw [State.setEventIf_flag, State.setEventIf_flag, host, freeze, donor]

end

/-! ### The standing (R73, R105, R106) -/

section
variable {x : Standing} {r : Record}

/-- With a station ACTIVE the no-donor rule does not act (R106). -/
theorem Standing.settle_of_active {k : StationNo} (active : x.roster[k] = .active) :
    x.noDonor = false ∧ x.settle = x := by
  have some : (upTo 8).any (fun k => x.roster[k] == .active) = true :=
    List.any_eq_true.mpr ⟨k, mem_upTo k, beq_iff_eq.mpr active⟩
  have donor : x.noDonor = false := by rw [Standing.noDonor, some]; exact Bool.and_false _
  exact ⟨donor, by simp [Standing.settle, donor]⟩

theorem Standing.drop_roster (x : Standing) (gone : List StationNo) (k : StationNo) :
    (x.drop gone).roster[k] = if k ∈ gone then .absent else x.roster[k] := by
  refine (getElem_tab _ k).trans ?_
  simp

theorem Standing.drop_kept (x : Standing) {gone : List StationNo} {k : StationNo} (kept : k ∉ gone) :
    (x.drop gone).roster[k] = x.roster[k] := by
  rw [x.drop_roster, if_neg kept]

/-- The kinds with no roster effect (R105). -/
theorem Standing.effect_plain (x : Standing) (plain : r.body.kind.ordinary = true ∨
    r.body.kind = .snapHead ∨ r.body.kind = .snapClaim ∨ r.body.kind = .snapPool) : x.effect r = x := by
  obtain ⟨k, b⟩ := r
  cases b with
  | join | leave | snapEnd => simp [Body.kind, Kind.ordinary] at plain
  | _ => rfl

/-- A SNAP-END for the head of the list (R105). -/
theorem Standing.effect_end {target : StationNo} {count} (body : r.body = .snapEnd target count)
    (head : x.list.head? = some target) :
    x.effect r = ⟨put x.roster target .active, x.list.tail⟩ := by
  simp [Standing.effect, body, head]

end

/-! ### The commit of a station that holds a roster (R72, R73, R104, R105) -/

/-- A commit with number `number` over the standing `x`. -/
def commitOver (me : StationNo) (r : Record) (ack : BitVec 8) (number : CommitNo) (x : Standing) : Commit :=
  let drop := dropSet me x.roster ack
  let isVoid := drop.contains r.sender && r.body.kind != .join
  let mid := x.twoSteps drop isVoid r
  ⟨number, drop, isVoid, mid, mid.settle⟩

section
variable {s : State} {r : Record} {ack : BitVec 8}

/-- A station past AWAITING commits over its own roster and list. -/
theorem commitOf_held (awaiting : s.control.awaiting = false) (carried : carriedHead s r = none) :
    commitOf s r ack =
      commitOver s.me r ack (s.bus.commit + 1#32) ⟨s.bus.roster, s.bus.syncList⟩ := by
  simp [commitOf, commitOver, commitNumber, carried, awaiting]

/-- A SNAP-HEAD addressed to a station treated as SYNCING, its sender not dropped. -/
theorem commitOf_carried {number : CommitNo} {x : Standing} (carried : carriedHead s r = some (number, x))
    (sender : r.sender ∉ dropSet s.me x.roster ack) :
    commitOf s r ack = commitOver s.me r ack number x := by
  simp [commitOf, commitOver, commitNumber, carried, sender]

/-- A record with no roster effect, void or not: the drop alone counts. -/
theorem commitOver_plain {me k : StationNo} {number : CommitNo} {x : Standing}
    (plain : r.body.kind.ordinary = true ∨ r.body.kind = .snapHead ∨ r.body.kind = .snapClaim ∨
      r.body.kind = .snapPool)
    (active : x.roster[k] = .active) (kept : k ∉ dropSet me x.roster ack) :
    commitOver me r ack number x = ⟨number, dropSet me x.roster ack,
      (dropSet me x.roster ack).contains r.sender, x.drop (dropSet me x.roster ack),
      x.drop (dropSet me x.roster ack)⟩ := by
  have join : (r.body.kind != .join) = true := by
    rcases plain with h | h | h | h
    · rw [bne_iff_ne]
      intro join
      rw [join] at h
      cases h
    all_goals rw [h]; rfl
  have mid : ∀ isVoid, x.twoSteps (dropSet me x.roster ack) isVoid r =
      x.drop (dropSet me x.roster ack) := fun isVoid => by
    rw [Standing.twoSteps, Standing.effect_plain _ plain, ite_self]
  have settle : (x.drop (dropSet me x.roster ack)).settle = x.drop (dropSet me x.roster ack) :=
    (Standing.settle_of_active ((x.drop_kept kept).trans active)).2
  simp [commitOver, join, mid, settle]

/-- Another's record takes no station out that is not treated as SYNCING (R106, R115). -/
theorem exitAt_synced {c : Commit} (synced : s.control.inSyncing = false) : exitAt s false c = none := by
  simp [exitAt, synced]

/-- Nor one that stands beside a station ACTIVE (R106). -/
theorem exitAt_donor {c : Commit} (donor : c.mid.noDonor = false) : exitAt s false c = none := by
  simp [exitAt, donor]

/-- The close of another's record with this station's ACK and no FLT is its commit (R72). -/
theorem exec_checkWindowClose_commits {o : OpenRecord} {rest : List OpenRecord}
    (window : s.bus.window = some (.ack r)) (openList : s.bus.openList = o :: rest)
    (other : o.own = false) (there : lineOf ack s.me = true) :
    exec (.checkWindowClose ack false) s =
      .next ((s.offOpenList rest).commitMember r false ack).openWindow.choose := by
  have there_ : lineOf ack (s.offOpenList rest).me = true := there
  rw [exec_checkWindowClose window openList]
  simp [State.closeAs, other, there_]

end

/-! ### The numbered state -/

section
variable {s : State} {r : Record} {ack : BitVec 8}

/-- A station not treated as SYNCING numbers a record without a change of phase, timer or tracker. -/
theorem State.numbered_synced (synced : s.control.inSyncing = false) :
    s.numbered r ack = State.arrive ((commitOf s r ack).entry r s.bus.syncList) { s with
      bus := { s.bus with
        commit := (commitOf s r ack).number, roster := (commitOf s r ack).after.roster
        syncList := (commitOf s r ack).after.list } } := by
  have syncing : (s.control.station == .syncing) = false := by
    simp only [Controller.inSyncing, Bool.or_eq_false_iff] at synced
    exact synced.1
  have timer : s.control.timerAt r = s.control := by simp [Controller.timerAt, syncing]
  have tracker : ∀ c, trackerAt s r c = s.bus.tracker := fun c => by simp [trackerAt, synced]
  unfold State.numbered
  simp only [timer, tracker]
  exact State.phaseAt_of_synced (by rw [State.arrive_control]; exact synced) _ _ _

/-- Another's record at a member not treated as SYNCING (R72 to R74). -/
theorem State.commitMember_synced (synced : s.control.inSyncing = false) :
    (s.commitMember r false ack).bus = { s.bus with
      commit := (commitOf s r ack).number, roster := (commitOf s r ack).after.roster
      syncList := (commitOf s r ack).after.list
      applyQueue := s.bus.applyQueue ++ [(commitOf s r ack).entry r s.bus.syncList] } ∧
    (s.commitMember r false ack).control = s.control ∧
    (s.commitMember r false ack).host.lastCmd = s.host.lastCmd ∧
    (s.commitMember r false ack).request.lrq = s.request.lrq ∧
    (s.commitMember r false ack).request.outcomes = s.request.outcomes ∧
    (s.commitMember r false ack).request.completions = s.request.completions ∧
    (s.OwnSettled → (s.commitMember r false ack).request.own = s.request.own) := by
  obtain ⟨bus, -, control, last, lrq, outcomes, completions⟩ := s.handOn_frame (s.numbered r ack) r
    ((carriedHead s r).isSome && !(commitOf s r ack).isVoid)
  rw [State.commitMember_other (exitAt_synced synced), bus, control, last, lrq, outcomes, completions,
    State.numbered_synced synced]
  refine ⟨State.arrive_bus _ _, by simp, by simp, by simp, by simp, by simp, fun settled => ?_⟩
  have arrived := State.arrive_request (s := { s with bus := { s.bus with
    commit := (commitOf s r ack).number, roster := (commitOf s r ack).after.roster
    syncList := (commitOf s r ack).after.list } }) settled ((commitOf s r ack).entry r s.bus.syncList)
  rw [State.handOn_request (by rw [State.OwnSettled, arrived]; exact settled)]
  exact (congrArg RequestUnit.own arrived :)

end

/-- Settles O32: the commit over the roster held, what is handed on, and the window of the next record. -/
theorem ordinaryCommitIsNumberedAndQueued : Obligations.OrdinaryCommitIsNumberedAndQueued := by
  refine ⟨fun ack r o rest s station phase active window openList other there ordinary => ?_,
    fun me k roster ack => by rw [mem_dropSet_iff]; tauto⟩
  intro gone
  have synced : s.control.inSyncing = false := by
    rcases station with h | h <;> simp [Controller.inSyncing, h, phase]
  have carried : carriedHead (s.offOpenList rest) r = none :=
    carriedHead_none _ r fun head => by rw [head] at ordinary; cases ordinary
  have commit : commitOf (s.offOpenList rest) r ack = ⟨s.bus.commit + 1#32, gone,
      gone.contains r.sender, Standing.drop gone ⟨s.bus.roster, s.bus.syncList⟩,
      Standing.drop gone ⟨s.bus.roster, s.bus.syncList⟩⟩ := by
    have awaiting : (s.offOpenList rest).control.awaiting = false := by
      show s.control.awaiting = false
      simp [Controller.awaiting, synced]
    rw [commitOf_held awaiting carried]
    exact commitOver_plain (.inl ordinary) active (me_not_mem_dropSet _ _ _)
  obtain ⟨bus, control, last, lrq, outcomes, completions, own_⟩ :=
    State.commitMember_synced (s := s.offOpenList rest) (r := r) (ack := ack) synced
  refine ⟨_, exec_checkWindowClose_commits window openList other there, ?_⟩
  have after : ((s.offOpenList rest).commitMember r false ack).openWindow.choose.bus =
      { s.bus with
        commit := s.bus.commit + 1#32, openList := rest
        window := rest.head?.map (driveFor ((s.offOpenList rest).commitMember r false ack))
        roster := (Standing.drop gone ⟨s.bus.roster, s.bus.syncList⟩).roster
        syncList := (Standing.drop gone ⟨s.bus.roster, s.bus.syncList⟩).list
        applyQueue := s.bus.applyQueue ++
          [(commitOf (s.offOpenList rest) r ack).entry r s.bus.syncList] } := by
    rw [State.choose_bus, State.openWindow_bus_eq, State.openWindow_next (by rw [bus]; rfl), bus, commit]
    rfl
  rw [after]
  refine ⟨fun k => Standing.drop_roster _ gone k, rfl, by rw [commit]; rfl, rfl, ?_, by simp; rfl,
    by simp; rfl, ?_, by simp; rfl, by simp; rfl, by simp; rfl, by simp; rfl, ?_, ?_, ?_, by simp; rfl,
    fun none => by rw [none]; rfl, fun next more rest_ own => ?_⟩
  · rw [State.choose_control, State.openWindow_control, control]; rfl
  · rw [State.choose_host, State.openWindow_host, last]; rfl
  · rw [State.choose_request_lrq, State.openWindow_request, lrq]; rfl
  · rw [State.choose_request_outcomes, State.openWindow_request, outcomes]; rfl
  · rw [State.choose_request_completions, State.openWindow_request, completions]; rfl
  · subst rest_
    refine congrArg some (driveFor_choose ?_ ?_ ?_ ?_).symm
    · rw [State.choose_bus, State.openWindow_bus_eq]
    · rw [State.choose_control, State.openWindow_control]
    · rw [State.choose_host, State.openWindow_host]
    · refine own.imp_right fun onBus => ?_
      obtain ⟨own, present, cond⟩ : ∃ own, s.request.own = some own ∧ own.cond = .onBus := by
        obtain ⟨own, on⟩ := Option.ne_none_iff_exists'.mp onBus
        exact ⟨own, by simpa [State.ownOnBus, Option.filter_eq_some_iff] using on⟩
      have kept := own_ fun o same => by
        cases present.symm.trans same
        exact cond
      rw [State.choose_of_own, State.openWindow_request]
      rw [State.openWindow_request, kept]
      exact fun none => (nomatch present.symm.trans none)

end Sys2Proof.Machine
end


section
/-!
PROOFS. The commits of the snapshot records at the joiner they address (R72, R98, R104, R113, R121, R132,
R138, R140, R147).
-/
namespace Sys2Proof.Machine

/-! ### The phase and the timer (R113, R140) -/

section
variable {s : State} {r : Record} {number : CommitNo}

theorem State.phaseAt_head (syncing : s.control.inSyncing = true) (target : r.body.target = some s.me)
    (kind : r.body.kind = .snapHead) :
    s.phaseAt r number false = { s with control := { s.control with phase := .loading } } := by
  obtain ⟨k, b⟩ := r
  cases b with
  | snapHead => simp [State.phaseAt, syncing, Record.addressedTo, target]
  | _ => cases kind

theorem State.phaseAt_counted (kind : r.body.kind = .snapClaim ∨ r.body.kind = .snapPool) (isVoid : Bool) :
    s.phaseAt r number isVoid = s := by
  obtain ⟨k, b⟩ := r
  cases b with
  | snapClaim | snapPool => exact ite_self _
  | _ => rcases kind with kind | kind <;> cases kind

theorem State.phaseAt_end (syncing : s.control.station = .syncing) (target : r.body.target = some s.me)
    (kind : r.body.kind = .snapEnd) :
    s.phaseAt r number false = State.setEvent .active { s with
      control := { s.control with station := .active, syncTimer := .stopped }
      bus := { s.bus with joinCommit := number }
      request := { s.request with auditDue := true } } := by
  have inSyncing : s.control.inSyncing = true := by simp [Controller.inSyncing, syncing]
  obtain ⟨k, b⟩ := r
  cases b with
  | snapEnd => simp [State.phaseAt, syncing, inSyncing, Record.addressedTo, target]
  | _ => cases kind

end

/-! ### The numbered state of a joiner -/

/-- The state in which a snapshot record has been numbered at the SYNCING station it addresses, its phase
yet to be taken: the timer starts again and the tracker counts the record (R98, R140). -/
def State.joinerNumbered (r : Record) (ack : BitVec 8) (s : State) : State :=
  State.arrive ((commitOf s r ack).entry r s.bus.syncList) { s with
    bus := { s.bus with
      commit := (commitOf s r ack).number, roster := (commitOf s r ack).after.roster
      syncList := (commitOf s r ack).after.list
      tracker := s.bus.tracker.commit s.me r (commitOf s r ack).drop (commitOf s r ack).isVoid }
    control := { s.control with syncTimer := .running Config.syncTimerMs } }

section
variable {s : State} {r : Record} {ack : BitVec 8}

theorem State.numbered_joiner (syncing : s.control.station = .syncing)
    (exclusive : r.body.kind.exclusive = true) : s.numbered r ack =
      (s.joinerNumbered r ack).phaseAt r (commitOf s r ack).number (commitOf s r ack).isVoid := by
  have inSyncing : s.control.inSyncing = true := by simp [Controller.inSyncing, syncing]
  have timer : s.control.timerAt r = { s.control with syncTimer := .running Config.syncTimerMs } := by
    simp [Controller.timerAt, syncing, exclusive]
  unfold State.numbered State.joinerNumbered
  simp only [timer, trackerAt, inSyncing, if_true]

/-- The bus unit's committed state once a record is numbered. -/
theorem State.joinerNumbered_frame (s : State) (r : Record) (ack : BitVec 8) :
    (s.joinerNumbered r ack).bus.commit = (commitOf s r ack).number ∧
    (s.joinerNumbered r ack).bus.roster = (commitOf s r ack).after.roster ∧
    (s.joinerNumbered r ack).bus.syncList = (commitOf s r ack).after.list ∧
    (s.joinerNumbered r ack).bus.tracker =
      s.bus.tracker.commit s.me r (commitOf s r ack).drop (commitOf s r ack).isVoid ∧
    (s.joinerNumbered r ack).control = { s.control with syncTimer := .running Config.syncTimerMs } ∧
    (s.joinerNumbered r ack).me = s.me := by
  simp [State.joinerNumbered, State.me]

/-- A SNAP-HEAD moves the joiner to LOADING (R113). -/
theorem State.numbered_head (syncing : s.control.station = .syncing) (target : r.body.target = some s.me)
    (kind : r.body.kind = .snapHead) (valid : (commitOf s r ack).isVoid = false) :
    s.numbered r ack = { s.joinerNumbered r ack with
      control := { (s.joinerNumbered r ack).control with phase := .loading } } := by
  obtain ⟨-, -, -, -, control, me⟩ := s.joinerNumbered_frame r ack
  rw [State.numbered_joiner syncing (by rw [kind]; rfl), valid]
  refine State.phaseAt_head ?_ (by rw [me]; exact target) kind
  rw [control]
  simp [Controller.inSyncing, syncing]

/-- A SNAP-CLAIM or SNAP-POOL leaves the phase (R113). -/
theorem State.numbered_counted (syncing : s.control.station = .syncing)
    (kind : r.body.kind = .snapClaim ∨ r.body.kind = .snapPool) :
    s.numbered r ack = s.joinerNumbered r ack := by
  rw [State.numbered_joiner syncing (by rcases kind with kind | kind <;> rw [kind] <;> rfl)]
  exact State.phaseAt_counted kind _

/-- A SNAP-END makes the joiner ACTIVE (R113, R138). -/
theorem State.numbered_end (syncing : s.control.station = .syncing) (target : r.body.target = some s.me)
    (kind : r.body.kind = .snapEnd) (valid : (commitOf s r ack).isVoid = false) :
    s.numbered r ack = State.setEvent .active { s.joinerNumbered r ack with
      control := { (s.joinerNumbered r ack).control with station := .active, syncTimer := .stopped }
      bus := { (s.joinerNumbered r ack).bus with joinCommit := (commitOf s r ack).number }
      request := { (s.joinerNumbered r ack).request with auditDue := true } } := by
  obtain ⟨-, -, -, -, control, me⟩ := s.joinerNumbered_frame r ack
  rw [State.numbered_joiner syncing (by rw [kind]; rfl), valid]
  exact State.phaseAt_end (by rw [control]; exact syncing) (by rw [me]; exact target) kind

/-- The request unit is not yet told where no own record waits. -/
theorem State.joinerNumbered_request (settled : s.OwnSettled) (r : Record) (ack : BitVec 8) :
    (s.joinerNumbered r ack).request = s.request :=
  State.arrive_request (s := { s with
    bus := { s.bus with
      commit := (commitOf s r ack).number, roster := (commitOf s r ack).after.roster
      syncList := (commitOf s r ack).after.list
      tracker := s.bus.tracker.commit s.me r (commitOf s r ack).drop (commitOf s r ack).isVoid }
    control := { s.control with syncTimer := .running Config.syncTimerMs } }) settled _

end

/-! ### The choice at the entry into ACTIVE (R138, R147) -/

section
variable {s : State}

theorem State.choose_held {h : Own} (active : s.control.station = .active) (freeze : s.freeze = false)
    (own : s.request.own = none) (held : s.request.held = some h) :
    s.choose.request = { s.request with own := some { h with cond := .chosen }, held := none } := by
  simp [State.choose, State.chooseOrdinary, active, freeze, own, held]

theorem State.choose_full (active : s.control.station = .active) (freeze : s.freeze = false)
    (own : s.request.own = none) (held : s.request.held = none) (full : s.request.freePlaces = 0) :
    s.choose = s := by
  simp [State.choose, State.chooseOrdinary, active, freeze, own, held, full]

/-- The entry AUDIT due at an ACTIVE station with no own record: it waits for the end of a freeze, for a
held record and for a free place, and is chosen otherwise. -/
theorem State.choose_due (active : s.control.station = .active) (own : s.request.own = none)
    (due : s.request.auditDue = true) :
    (s.choose.request.auditDue = true ∨
      s.choose.request.own = some (Own.fresh (.ordinary ⟨0xFF#8, .audit⟩ true))) ∧
    (s.freeze = true → s.choose.request.own = none ∧ s.choose.request.auditDue = true) ∧
    (∀ h, s.freeze = false → s.request.held = some h →
      s.choose.request.own = some { h with cond := .chosen } ∧ s.choose.request.auditDue = true) ∧
    (s.freeze = false → s.request.held = none → 0 < s.request.freePlaces →
      s.choose.request.own = some (Own.fresh (.ordinary ⟨0xFF#8, .audit⟩ true)) ∧
      s.choose.request.auditDue = false ∧ s.choose.request.reserved = s.request.reserved + 1) ∧
    (s.freeze = false → s.request.held = none → s.request.freePlaces = 0 →
      s.choose.request.own = none ∧ s.choose.request.auditDue = true) := by
  have frozen : s.freeze = true → s.choose.request.own = none ∧ s.choose.request.auditDue = true :=
    fun freeze => by rw [State.choose_frozen active freeze]; exact ⟨own, due⟩
  have holds : ∀ h, s.freeze = false → s.request.held = some h →
      s.choose.request.own = some { h with cond := .chosen } ∧ s.choose.request.auditDue = true :=
    fun h freeze held => by rw [State.choose_held active freeze own held]; exact ⟨rfl, due⟩
  have free : s.freeze = false → s.request.held = none → 0 < s.request.freePlaces →
      s.choose.request.own = some (Own.fresh (.ordinary ⟨0xFF#8, .audit⟩ true)) ∧
      s.choose.request.auditDue = false ∧ s.choose.request.reserved = s.request.reserved + 1 :=
    fun freeze held free => by
      rw [State.choose_entryAudit s active freeze own held due (by omega)]; exact ⟨rfl, rfl, rfl⟩
  have full : s.freeze = false → s.request.held = none → s.request.freePlaces = 0 →
      s.choose.request.own = none ∧ s.choose.request.auditDue = true :=
    fun freeze held full => by rw [State.choose_full active freeze own held full]; exact ⟨own, due⟩
  refine ⟨?_, frozen, holds, free, full⟩
  rcases freeze : s.freeze with _ | _
  · rcases held : s.request.held with _ | h
    · rcases Nat.eq_zero_or_pos s.request.freePlaces with none | some
      · exact .inl (full freeze held none).2
      · exact .inr (free freeze held some).1
    · exact .inl (holds h freeze held).2
  · exact .inl (frozen freeze).2

end

/-! ### The closes of the three snapshot records -/

section
variable {s : State} {r : Record} {ack : BitVec 8}

theorem State.openWindow_choose_freeze (s : State) : s.openWindow.choose.freeze = s.freeze := by
  rw [State.freeze, State.choose_bus, State.openWindow_bus_syncList, State.freeze]

/-- After the close of another's record the committed state is that of its numbering. -/
theorem State.commits_frame (stays : exitAt s false (commitOf s r ack) = none) :
    (s.commitMember r false ack).openWindow.choose.bus = { (s.numbered r ack).bus with
      window := (s.commitMember r false ack).openWindow.choose.bus.window } ∧
    (s.commitMember r false ack).openWindow.choose.control = (s.numbered r ack).control := by
  obtain ⟨bus, -, control, -⟩ := s.handOn_frame (s.numbered r ack) r
    ((carriedHead s r).isSome && !(commitOf s r ack).isVoid)
  rw [State.choose_bus, State.choose_control, State.openWindow_control, State.openWindow_bus_eq,
    State.commitMember_other stays, bus, control]
  exact ⟨rfl, rfl⟩

theorem State.commits_freeze (stays : exitAt s false (commitOf s r ack) = none) :
    (s.commitMember r false ack).openWindow.choose.freeze = (s.numbered r ack).freeze := by
  rw [State.freeze, (State.commits_frame stays).1, State.freeze]

theorem State.commits_flag (stays : exitAt s false (commitOf s r ack) = none) (f : Event) :
    (s.commitMember r false ack).openWindow.choose.host.flag f = ((s.numbered r ack).host.flag f ||
      ((s.freeze != (s.numbered r ack).freeze || ((carriedHead s r).isSome &&
        !(commitOf s r ack).isVoid && (s.numbered r ack).freeze)) && f == .freeze) ||
      ((s.isDonor != (s.numbered r ack).isDonor) && f == .donation)) := by
  rw [State.choose_flag, State.openWindow_host, State.commitMember_other stays, State.handOn_flag]

/-- A record with no roster effect whose sender is ACTIVE and acknowledges: its commit is not void. -/
theorem commitOver_valid {me : StationNo} {number : CommitNo} {x : Standing}
    (plain : r.body.kind.ordinary = true ∨ r.body.kind = .snapHead ∨ r.body.kind = .snapClaim ∨
      r.body.kind = .snapPool)
    (active : x.roster[r.sender] = .active) (kept : r.sender ∉ dropSet me x.roster ack) :
    commitOver me r ack number x = ⟨number, dropSet me x.roster ack, false,
      x.drop (dropSet me x.roster ack), x.drop (dropSet me x.roster ack)⟩ := by
  rw [commitOver_plain plain active kept]
  simpa using kept

/-- A record that takes no station of its roster's donors away leaves the joiner in the group. -/
theorem exitAt_plain {number : CommitNo} {x : Standing} {drop : List StationNo} {isVoid : Bool}
    {k : StationNo} (active : x.roster[k] = .active) (kept : k ∉ drop) :
    exitAt s false ⟨number, drop, isVoid, x.drop drop, x.drop drop⟩ = none :=
  exitAt_donor (Standing.settle_of_active ((x.drop_kept kept).trans active)).1

/-- The standing after a SNAP-END: the joiner is ACTIVE and off the list (R105, R113). -/
def Standing.joined (me : StationNo) (drop : List StationNo) (roster : Roster) (rest : List StationNo) :
    Standing :=
  ⟨put (Standing.drop drop ⟨roster, rest⟩).roster me .active, (Standing.drop drop ⟨roster, rest⟩).list⟩

/-- A SNAP-END for the head of the list, its sender not dropped. -/
theorem commitOver_end {me : StationNo} {number : CommitNo} {roster : Roster} {rest : List StationNo}
    {count} (body : r.body = .snapEnd me count) (kept : r.sender ∉ dropSet me roster ack) :
    commitOver me r ack number ⟨roster, me :: rest⟩ = ⟨number, dropSet me roster ack, false,
      Standing.joined me (dropSet me roster ack) roster rest,
      Standing.joined me (dropSet me roster ack) roster rest⟩ := by
  have stays : (Standing.drop (dropSet me roster ack) ⟨roster, me :: rest⟩).list =
      me :: (Standing.drop (dropSet me roster ack) ⟨roster, rest⟩).list := by
    simp [Standing.drop, me_not_mem_dropSet]
  have effect : (Standing.drop (dropSet me roster ack) ⟨roster, me :: rest⟩).effect r =
      Standing.joined me (dropSet me roster ack) roster rest := by
    rw [Standing.effect_end body (by rw [stays]; rfl), stays]
    rfl
  have settle := (Standing.settle_of_active (x := Standing.joined me (dropSet me roster ack) roster rest)
    (k := me) (getElem_put_same ..)).2
  simp [commitOver, Standing.twoSteps, kept, effect, settle]

end

/-- Settles O38: each of the three records by its commit and its phase; then what is chosen. -/
theorem snapshotMovesTheJoiner : Obligations.SnapshotMovesTheJoiner := by
  intro ack donor o rest s syncing openList other there donorThere notMe noOwn
  have kept : ∀ roster, donor ∉ dropSet s.me roster ack := fun roster gone => by
    rw [mem_dropSet_iff, donorThere] at gone
    cases gone.2.1
  have inSyncing : s.control.inSyncing = true := by simp [Controller.inSyncing, syncing]
  have settled : (s.offOpenList rest).OwnSettled := fun own present => (nomatch noOwn.symm.trans present)
  refine ⟨fun t step => ?_, fun number roster list window active => ?_,
    fun b phase window target kind active => ?_, fun count phase window head nodup active => ?_⟩
  · cases step
    have quiet := (State.Quiet.refl s).closeWindow ack false
    exact ⟨quiet.engine.pools, quiet.engine.slots⟩
  · have carried : carriedHead (s.offOpenList rest) ⟨donor, .snapHead s.me number roster list⟩ =
        some (number, ⟨roster, list⟩) := if_pos ⟨rfl, inSyncing⟩
    have commit : commitOf (s.offOpenList rest) ⟨donor, .snapHead s.me number roster list⟩ ack =
        ⟨number, dropSet s.me roster ack, false, Standing.drop (dropSet s.me roster ack) ⟨roster, list⟩,
          Standing.drop (dropSet s.me roster ack) ⟨roster, list⟩⟩ :=
      (commitOf_carried carried (kept roster)).trans
        (commitOver_valid (.inr (.inl rfl)) active (kept roster))
    have stays := (congrArg (exitAt (s.offOpenList rest) false) commit).trans
      (exitAt_plain active (kept roster))
    obtain ⟨bus, control⟩ := State.commits_frame stays
    obtain ⟨number_, roster_, list_, tracker, control_, -⟩ := (s.offOpenList rest).joinerNumbered_frame
      ⟨donor, .snapHead s.me number roster list⟩ ack
    have numbered := State.numbered_head (s := s.offOpenList rest) (ack := ack)
      (r := ⟨donor, .snapHead s.me number roster list⟩) syncing rfl rfl (by rw [commit])
    rw [commit] at number_ roster_ list_ tracker
    have freezes : s.me ∈ list → (State.numbered ⟨donor, .snapHead s.me number roster list⟩ ack
        (s.offOpenList rest)).freeze = true := fun on => by
      have still : s.me ∈ (Standing.drop (dropSet s.me roster ack) ⟨roster, list⟩).list := by
        simpa [Standing.drop, on] using me_not_mem_dropSet s.me roster ack
      have some : (Standing.drop (dropSet s.me roster ack) ⟨roster, list⟩).list ≠ [] := by
        intro none
        rw [none] at still
        cases still
      rw [numbered, State.freeze, list_]
      simpa using some
    refine ⟨_, exec_checkWindowClose_commits window openList other there, ?_, ?_, ?_, ?_, fun k => ?_,
      ?_, ?_, fun on => ⟨?_, ?_⟩⟩
    · rw [bus, numbered]; exact number_
    · rw [control, numbered, control_]; exact syncing
    · rw [control, numbered]
    · rw [control, numbered, control_]; rfl
    · rw [bus, numbered, roster_]; exact Standing.drop_roster _ _ k
    · rw [bus, numbered]; exact list_
    · rw [bus, numbered]
      exact tracker.trans (Tracker.commit_head _ rfl rfl)
    · rw [State.commits_freeze stays]; exact freezes on
    · rw [State.commits_flag stays, freezes on, carried, commit]
      simp
  · have awaiting : (s.offOpenList rest).control.awaiting = false := by
      show s.control.awaiting = false
      simp [Controller.awaiting, phase]
    have plain : b.kind.ordinary = true ∨ b.kind = .snapHead ∨ b.kind = .snapClaim ∨ b.kind = .snapPool :=
      .inr (.inr kind)
    have carried : carriedHead (s.offOpenList rest) ⟨donor, b⟩ = none :=
      carriedHead_none _ _ fun head => by
        rcases kind with kind | kind <;> cases kind.symm.trans head
    have commit : commitOf (s.offOpenList rest) ⟨donor, b⟩ ack =
        ⟨s.bus.commit + 1#32, dropSet s.me s.bus.roster ack, false,
          Standing.drop (dropSet s.me s.bus.roster ack) ⟨s.bus.roster, s.bus.syncList⟩,
          Standing.drop (dropSet s.me s.bus.roster ack) ⟨s.bus.roster, s.bus.syncList⟩⟩ :=
      (commitOf_held awaiting carried).trans (commitOver_valid plain active (kept s.bus.roster))
    have stays := (congrArg (exitAt (s.offOpenList rest) false) commit).trans
      (exitAt_plain active (kept s.bus.roster))
    obtain ⟨bus, control⟩ := State.commits_frame stays
    obtain ⟨number_, -, -, tracker, control_, -⟩ :=
      (s.offOpenList rest).joinerNumbered_frame ⟨donor, b⟩ ack
    have numbered := State.numbered_counted (s := s.offOpenList rest) (ack := ack) (r := ⟨donor, b⟩)
      syncing kind
    rw [commit] at number_ tracker
    refine ⟨_, exec_checkWindowClose_commits window openList other there, ?_, ?_, ?_, ?_, ?_⟩
    · rw [bus, numbered]; exact number_
    · rw [control, numbered, control_]; exact syncing
    · rw [control, numbered, control_]; exact phase
    · rw [control, numbered, control_]; rfl
    · rw [bus, numbered]
      exact tracker
  · obtain ⟨others, list⟩ : ∃ others, s.bus.syncList = s.me :: others := List.head?_eq_some_iff.mp head
    rw [list, List.nodup_cons] at nodup
    have awaiting : (s.offOpenList rest).control.awaiting = false := by
      show s.control.awaiting = false
      simp [Controller.awaiting, phase]
    have carried : carriedHead (s.offOpenList rest) ⟨donor, .snapEnd s.me count⟩ = none :=
      carriedHead_none _ _ fun head => (nomatch head)
    have commit : commitOf (s.offOpenList rest) ⟨donor, .snapEnd s.me count⟩ ack =
        ⟨s.bus.commit + 1#32, dropSet s.me s.bus.roster ack, false,
          Standing.joined s.me (dropSet s.me s.bus.roster ack) s.bus.roster others,
          Standing.joined s.me (dropSet s.me s.bus.roster ack) s.bus.roster others⟩ := by
      rw [commitOf_held awaiting carried]
      show commitOver s.me _ ack _ ⟨s.bus.roster, s.bus.syncList⟩ = _
      rw [list]
      exact commitOver_end rfl (kept s.bus.roster)
    have stays := (congrArg (exitAt (s.offOpenList rest) false) commit).trans
      (exitAt_donor (Standing.settle_of_active (k := s.me) (getElem_put_same ..)).1)
    obtain ⟨bus, control⟩ := State.commits_frame stays
    obtain ⟨number_, roster_, list_, tracker, control_, -⟩ :=
      (s.offOpenList rest).joinerNumbered_frame ⟨donor, .snapEnd s.me count⟩ ack
    have numbered := State.numbered_end (s := s.offOpenList rest) (ack := ack)
      (r := ⟨donor, .snapEnd s.me count⟩) syncing rfl rfl (by rw [commit])
    rw [commit] at number_ roster_ list_ tracker
    have request : ∃ cursor, (State.commitMember ⟨donor, .snapEnd s.me count⟩ false ack
        (s.offOpenList rest)).request = { s.request with auditDue := true, cursor := cursor } := by
      have told : (State.numbered ⟨donor, .snapEnd s.me count⟩ ack (s.offOpenList rest)).request =
          { s.request with auditDue := true } := by
        rw [numbered, State.setEvent_request, State.joinerNumbered_request settled]
        rfl
      have settled_ : (State.numbered ⟨donor, .snapEnd s.me count⟩ ack
          (s.offOpenList rest)).OwnSettled := by
        rw [State.OwnSettled, told]; exact settled
      rw [State.commitMember_other stays, State.handOn_request settled_, told]
      exact ⟨_, rfl⟩
    obtain ⟨cursor, request⟩ := request
    obtain ⟨due, frozen, held, free, full⟩ := State.choose_due
      (s := State.commitMember ⟨donor, .snapEnd s.me count⟩ false ack (s.offOpenList rest))
      (by
        have after := State.commits_frame stays
        rw [State.choose_control, State.openWindow_control] at after
        rw [after.2, numbered]; rfl)
      (by rw [request]; exact noOwn) (by rw [request])
    rw [request] at held free full
    refine ⟨_, exec_checkWindowClose_commits window openList other there, ?_⟩
    rw [State.openWindow_choose_request, State.openWindow_choose_freeze]
    refine ⟨?_, ?_, ?_, ?_, ?_, ?_, ?_, ?_, ?_, due, frozen, held, free, full⟩
    · rw [bus, numbered]; exact number_
    · rw [control, numbered]; rfl
    · rw [bus, numbered, commit]; rfl
    · rw [bus, numbered]
      show (State.joinerNumbered _ ack (s.offOpenList rest)).bus.roster[s.me] = _
      rw [roster_]
      exact getElem_put_same ..
    · rw [bus, numbered]
      show s.me ∉ (State.joinerNumbered _ ack (s.offOpenList rest)).bus.syncList
      rw [list_]
      exact fun on => nodup.1 (List.mem_filter.mp on).1
    · rw [control, numbered]; rfl
    · rw [State.commits_flag stays, numbered, State.setEvent_flag]
      simp
    · rw [bus, numbered]
      exact tracker.trans (Tracker.commit_end _ rfl rfl)
    · rw [State.choose_request_lrq, request]

end Sys2Proof.Machine
end


section
/-!
PROOFS. The commit of the own JOIN (R72, R104, R109, R111).
-/
namespace Sys2Proof.Machine

/-- The station that enters the group at its own JOIN, a held LEAVE not yet taken (R104, R111). -/
def State.joinEntered (ack : BitVec 8) (s : State) : State :=
  let arrived := s.clearOwn.arrive (joinEntry s (ack == 0#8))
  if ack = 0#8 then
    State.setEvent .active { arrived with
      bus := { arrived.bus with
        commit := 1#32, roster := put Roster.allAbsent s.me .active, syncList := [], joinCommit := 1#32 }
      control := { arrived.control with station := .active, leaveHeld := false } }
  else
    { arrived with
      bus := { arrived.bus with commit := 1#32, roster := Roster.allAbsent, syncList := [] }
      control := { arrived.control with
        station := .syncing, phase := .awaiting, leaveHeld := false
        syncTimer := .running Config.syncTimerMs } }

section
variable {s : State} {ack : BitVec 8}

/-- A held LEAVE is taken in the new state (R109). -/
theorem State.commitJoin_eq (s : State) (ack : BitVec 8) : s.commitJoin ack =
    if s.control.leaveHeld then (s.joinEntered ack).enterLeaving .left else s.joinEntered ack := by
  unfold State.commitJoin State.joinEntered
  simp only [beq_iff_eq]

theorem State.commitJoin_bus_entered (s : State) (ack : BitVec 8) :
    (s.commitJoin ack).bus = (s.joinEntered ack).bus := by
  rw [State.commitJoin_eq]
  split
  · exact State.enterLeaving_bus ..
  · rfl

theorem State.commitJoin_flag (s : State) (ack : BitVec 8) (f : Event) (other : f ≠ .completion) :
    (s.commitJoin ack).host.flag f = (s.joinEntered ack).host.flag f := by
  rw [State.commitJoin_eq]
  split
  · exact State.enterLeaving_flag _ _ _ other
  · rfl

theorem State.clearOwn_settled (s : State) : s.clearOwn.OwnSettled := fun _ present => (nomatch present)

theorem State.joinEntered_request (s : State) (ack : BitVec 8) :
    (s.joinEntered ack).request = s.clearOwn.request := by
  have arrived := State.arrive_request s.clearOwn_settled (joinEntry s (ack == 0#8))
  unfold State.joinEntered
  split
  · exact arrived
  · exact arrived

/-- The station that founds a group stands alone in it (R111). -/
theorem State.joinEntered_founds (s : State) :
    (s.joinEntered 0#8).bus = { s.bus with
      commit := 1#32, roster := put Roster.allAbsent s.me .active, syncList := [], joinCommit := 1#32
      applyQueue := s.bus.applyQueue ++ [joinEntry s true] } ∧
    (s.joinEntered 0#8).control = { s.control with station := .active, leaveHeld := false } ∧
    (s.joinEntered 0#8).host.flag .active = true := by
  unfold State.joinEntered
  rw [if_pos rfl]
  refine ⟨?_, ?_, ?_⟩
  · rw [State.setEvent_bus, State.arrive_bus]; rfl
  · rw [State.setEvent_control, State.arrive_control]; rfl
  · rw [State.setEvent_flag]; exact Bool.or_true _

/-- The station that joins a group waits for its snapshot (R104, R111). -/
theorem State.joinEntered_joins (others : ack ≠ 0#8) :
    (s.joinEntered ack).bus = { s.bus with
      commit := 1#32, roster := Roster.allAbsent, syncList := []
      applyQueue := s.bus.applyQueue ++ [joinEntry s false] } ∧
    (s.joinEntered ack).control = { s.control with
      station := .syncing, phase := .awaiting, leaveHeld := false
      syncTimer := .running Config.syncTimerMs } ∧
    (s.joinEntered ack).host.flag .active = s.host.flag .active := by
  have founding : (ack == 0#8) = false := by simpa using others
  unfold State.joinEntered
  rw [if_neg others, founding]
  refine ⟨?_, ?_, ?_⟩
  · dsimp only
    rw [State.arrive_bus]; rfl
  · dsimp only
    rw [State.arrive_control]; rfl
  · exact State.arrive_flag _ _ (by decide) _

/-- What founding and joining share. -/
theorem State.joinEntered_frame (s : State) (ack : BitVec 8) :
    (s.joinEntered ack).bus.commit = 1#32 ∧ (s.joinEntered ack).bus.syncList = [] ∧
    (s.joinEntered ack).control.leaveHeld = false ∧
    (s.joinEntered ack).bus.applyQueue = s.bus.applyQueue ++ [joinEntry s (ack == 0#8)] := by
  by_cases founding : ack = 0#8
  · subst founding
    obtain ⟨bus, control, -⟩ := s.joinEntered_founds
    rw [bus, control]
    exact ⟨rfl, rfl, rfl, rfl⟩
  · obtain ⟨bus, control, -⟩ := State.joinEntered_joins (s := s) founding
    rw [bus, control, beq_false_of_ne founding]
    exact ⟨rfl, rfl, rfl, rfl⟩

/-- What an entry into LEAVING posts (R156). -/
theorem State.enterLeaving_completions (reason : LeaveReason) (s : State) :
    (s.enterLeaving reason).request.completions = s.request.completions ++
      chosenCancelled s.request.own ++ heldCancelled s.request.held := by
  unfold State.enterLeaving
  rw [State.choose_request_completions, State.dropHeld_completions, State.dropChosen_completions,
    State.dropChosen_request_held]

theorem State.commitJoin_stays (stays : s.control.leaveHeld = false) :
    s.commitJoin ack = s.joinEntered ack := by
  simp [State.commitJoin_eq, stays]

/-- The LEAVE that was held is the next own record (R109). -/
theorem State.commitJoin_leaves (leaves : s.control.leaveHeld = true) :
    (s.commitJoin ack).control = { (s.joinEntered ack).control with
      station := .leaving, phaseKept := (s.joinEntered ack).control.inSyncing, leaveReason := .left
      syncTimer := .stopped } ∧
    (s.commitJoin ack).request.own = some (Own.fresh .leave) := by
  rw [State.commitJoin_eq, if_pos leaves, State.enterLeaving_control, State.enterLeaving_own,
    State.joinEntered_request]
  exact ⟨rfl, rfl⟩

/-- A JOIN that commits leaves no LEAVE held (R109, R111). -/
theorem State.commitJoin_leaveHeld (s : State) (ack : BitVec 8) :
    (s.commitJoin ack).control.leaveHeld = false := by
  obtain ⟨-, -, entered, -⟩ := s.joinEntered_frame ack
  rcases leaves : s.control.leaveHeld with _ | _
  · rw [State.commitJoin_stays leaves, entered]
  · rw [(State.commitJoin_leaves leaves).1]; exact entered

/-- No completion is posted where no held record is dropped by a held LEAVE. -/
theorem State.commitJoin_completions (kept : s.control.leaveHeld = false ∨ s.request.held = none) :
    (s.commitJoin ack).request.completions = s.request.completions := by
  rw [State.commitJoin_eq]
  split
  · rename_i leaves
    have held : s.request.held = none := by
      rcases kept with stays | held
      · cases stays.symm.trans leaves
      · exact held
    rw [State.enterLeaving_completions, State.joinEntered_request]
    simp [held, chosenCancelled, heldCancelled]
  · rw [State.joinEntered_request]; rfl

/-- The close of the own JOIN's window without FLT is its commit (R72, R111). -/
theorem exec_checkWindowClose_joins {own : Own} {o : OpenRecord} {rest : List OpenRecord}
    (joining : s.control.station = .joining) (window : s.bus.window = some .idle)
    (openList : s.bus.openList = o :: rest) (mine : o.own = true) (on : s.ownOnBus = some own)
    (what : own.what = .join) : exec (.checkWindowClose ack false) s =
      .next ((s.offOpenList rest).commitJoin ack).openWindow.choose := by
  have on_ : (s.offOpenList rest).ownOnBus = some own := on
  have joining_ : (s.offOpenList rest).control.station = .joining := joining
  rw [exec_checkWindowClose window openList]
  simp [State.closeAs, mine, on_, joining_, what]

end

/-- Settles O35: founding or joining, then the LEAVE that was held. -/
theorem ownJoinFoundsOrJoins : Obligations.OwnJoinFoundsOrJoins := by
  intro ack own o rest s joining window openList mine present what cond
  have bus : ((s.offOpenList rest).commitJoin ack).openWindow.choose.bus =
      { ((s.offOpenList rest).joinEntered ack).bus with
        window := ((s.offOpenList rest).commitJoin ack).openWindow.choose.bus.window } := by
    rw [State.choose_bus, State.openWindow_bus_eq, State.commitJoin_bus_entered]
  have control : ((s.offOpenList rest).commitJoin ack).openWindow.choose.control =
      ((s.offOpenList rest).commitJoin ack).control := by
    rw [State.choose_control, State.openWindow_control]
  have own_ : s.control.leaveHeld = true →
      ((s.offOpenList rest).commitJoin ack).openWindow.choose.request.own = some (Own.fresh .leave) :=
    fun leaves => by
      obtain ⟨-, next⟩ := State.commitJoin_leaves (s := s.offOpenList rest) (ack := ack) leaves
      rw [State.openWindow_choose_request, State.choose_of_own _ (by rw [next]; simp), next]
  have flag : ((s.offOpenList rest).commitJoin ack).openWindow.choose.host.flag .active =
      ((s.offOpenList rest).joinEntered ack).host.flag .active := by
    rw [State.choose_flag, State.openWindow_host, State.commitJoin_flag _ _ _ (by decide)]
  refine ⟨_, exec_checkWindowClose_joins joining window openList mine (State.ownOnBus_some present cond)
    what, ?_⟩
  rw [bus, control, flag, State.openWindow_choose_request]
  obtain ⟨commit, list, -, queue⟩ := (s.offOpenList rest).joinEntered_frame ack
  refine ⟨?_, ?_, State.commitJoin_control_exitCause .., State.commitJoin_leaveHeld .., by simp; rfl,
    by simp; rfl, by simp; rfl, by simp; rfl, by simp; rfl, by simp; rfl, fun kept => ?_, ?_,
    fun founding => ?_, fun others => ?_, fun stays founding => ?_, fun stays others => ?_,
    fun leaves => ?_⟩
  · exact commit
  · exact list
  · rw [State.choose_request_completions]
    exact State.commitJoin_completions (s := s.offOpenList rest) kept
  · refine queue.trans ?_
    rw [joinEntry, bne]
    rfl
  · subst founding
    obtain ⟨entered, -, active⟩ := (s.offOpenList rest).joinEntered_founds
    rw [entered]
    refine ⟨rfl, active, fun k => ?_⟩
    by_cases same : s.me = k
    · rw [if_pos same.symm]
      subst same
      exact getElem_put_same ..
    · rw [if_neg (Ne.symm same)]
      exact (getElem_put_other _ _ _ _ same).trans (Roster.allAbsent_getElem k)
  · obtain ⟨entered, phase, active⟩ := State.joinEntered_joins (s := s.offOpenList rest) others
    rw [entered]
    refine ⟨rfl, active, Roster.allAbsent_getElem, ?_⟩
    rcases leaves : s.control.leaveHeld with _ | _
    · rw [State.commitJoin_stays (s := s.offOpenList rest) leaves, phase]
    · rw [(State.commitJoin_leaves (s := s.offOpenList rest) leaves).1, phase]
  · subst founding
    rw [State.commitJoin_stays (s := s.offOpenList rest) stays, (State.joinEntered_founds _).2.1]
  · obtain ⟨-, entered, -⟩ := State.joinEntered_joins (s := s.offOpenList rest) others
    rw [State.commitJoin_stays (s := s.offOpenList rest) stays, entered]
    refine ⟨rfl, rfl, ?_⟩
    rw [State.choose_of_idle_state _ (.inr (.inr (by rw [entered]))), State.joinEntered_request]
    rfl
  · rw [← State.openWindow_choose_request, own_ leaves,
      (State.commitJoin_leaves (s := s.offOpenList rest) leaves).1]
    refine ⟨rfl, rfl, rfl, ?_, rfl⟩
    by_cases founding : ack = 0#8
    · subst founding
      rw [(State.joinEntered_founds _).2.1]
      rfl
    · rw [(State.joinEntered_joins founding).2.1, bne, beq_false_of_ne founding]
      rfl

end Sys2Proof.Machine
end


section
/-!
PROOFS. SNAP-CLAIM, SNAP-POOL and SNAP-END applied at their target (R133, R134, R136, R138).
-/
namespace Sys2Proof.Machine

/-! ### What is installed (R133, R134, R136) -/

section
variable {me : StationNo} {e : ApplyEntry} {g : Engine}

theorem Engine.effected_snapClaim {slot : SlotNo} {c : Claim} (counts : e.isVoid = false)
    (body : e.record.body = .snapClaim me slot c) :
    g.effected me e = (g.dropped e).installClaim e.drop slot c := by
  unfold Engine.effected Course.effect
  rw [counts, body]
  simp

theorem Engine.effected_snapPool {p : PoolNo} {f : Pool} (counts : e.isVoid = false)
    (body : e.record.body = .snapPool me p f) : g.effected me e = (g.dropped e).installPool p f := by
  unfold Engine.effected Course.effect
  rw [counts, body]
  simp

theorem Engine.effected_snapEnd {count} (counts : e.isVoid = false)
    (body : e.record.body = .snapEnd me count) : g.effected me e = (g.dropped e).installEnd := by
  unfold Engine.effected Course.effect
  rw [counts, body]
  simp

/-- A commit that drops no one and is no LEAVE frees nothing (R32). -/
theorem Engine.dropped_none (drop : e.drop = []) (stays : e.record.body.kind ≠ .leave) :
    g.dropped e = ⟨g, g.begin, none, false⟩ := by
  rw [Engine.dropped, g.dropStep_nothing _ (goneAt_none e drop stays)]

/-- Work that touches no pool, with no pass owed, is done after step 3 (R35 to R37). -/
theorem workOf_untouched (ended : e.freezeEnded = false)
    (untouched : (g.effected me e).work.touched = g.begin.touched) :
    workOf me e g = (g.effected me e).work := by
  rw [workOf_eq]
  refine Work.admission_untouched _ _ _ _ _ (fun p => ?_) (.inl ended)
  rw [untouched]
  simp [Engine.begin]

/-- A pool with nothing freed of it is installed as it came (R134). -/
theorem Course.installPool_begin (p : PoolNo) (f : Pool) :
    ((⟨g, g.begin, none, false⟩ : Course).installPool p f).work = g.begin.setPool p f := by
  have units : g.begin.freedUnits[p] = 0 := by simp [Engine.begin]
  have waiting : g.begin.freedWaiting[p] = 0 := by simp [Engine.begin]
  show g.begin.setPool p _ = _
  rw [units, waiting]
  simp

end

/-! ### The application of an entry that decides no request -/

/-- Without a decision nothing is completed (R51). -/
theorem State.complete_none (e : ApplyEntry) (s : State) : s.complete e none = s := by
  unfold State.complete
  exact ite_self _

/-- A record that decides no request leaves the request unit to its own record (R51, R147). -/
theorem State.application_undecided {s : State} {e : ApplyEntry} {rest : List ApplyEntry}
    (queue : s.bus.applyQueue = e :: rest) (current : s.engine.current = true)
    (join : ¬ (e.record.body.kind = .join ∧ e.record.sender = s.me))
    (undecided : (s.engine.effected s.me e).decision = none) (own : s.request.own ≠ none) :
    s.application.request = s.request := by
  have decision : (s.engine.applySteps s.me e).decision = none := by
    rw [Engine.applySteps_eq, undecided]; rfl
  have request : ((s.offQueue rest).applySteps e).request = s.request := by
    have steps : ((s.offQueue rest).applySteps e).request = (State.complete e
        (s.engine.applySteps s.me e).decision _).request := rfl
    rw [steps, decision, State.complete_none, State.setEventIf_request, State.setEventIf_request]
    rfl
  rw [State.application_current queue current join, State.choose_of_own _ (by rw [request]; exact own),
    request]

/-- Settles O48: the three installs on the tables, then the application of the SNAP-END. -/
theorem snapshotRecordsInstallAtTheirTarget : Obligations.SnapshotRecordsInstallAtTheirTarget := by
  refine ⟨fun e rest s queue current counts drop ended => ⟨fun slot c body => ?_, fun p f body => ?_,
    fun count body => ?_⟩, fun e rest count s queue current counts body own => ?_⟩
  · have dropped : s.engine.dropped e = _ :=
      Engine.dropped_none drop (by rw [body]; simp [Body.kind])
    have effected := Engine.effected_snapClaim (g := s.engine) counts body
    rw [dropped] at effected
    have work := workOf_untouched (g := s.engine) (me := s.me) ended (by rw [effected]; rfl)
    have engine := State.application_engine queue current (by rw [body]; simp [Body.kind])
    rw [Engine.applySteps_eq, work, effected] at engine
    refine ⟨_, rfl, ?_⟩
    show s.application.engine.horizon = _ ∧ s.application.engine.pools = _ ∧
      ∀ i : SlotNo, s.application.engine.slots[i] = _
    rw [engine]
    refine ⟨rfl, rfl, fun i => (getElem_tab _ i).trans ?_⟩
    rw [drop]
    rfl
  · have dropped : s.engine.dropped e = _ :=
      Engine.dropped_none drop (by rw [body]; simp [Body.kind])
    have effected := Engine.effected_snapPool (g := s.engine) counts body
    rw [dropped] at effected
    have work := workOf_untouched (g := s.engine) (me := s.me) ended (by rw [effected]; rfl)
    have engine := State.application_engine queue current (by rw [body]; simp [Body.kind])
    rw [Engine.applySteps_eq, work, effected, Course.installPool_begin] at engine
    refine ⟨_, rfl, ?_⟩
    show s.application.engine.horizon = _ ∧ s.application.engine.slots = _ ∧
      s.application.engine.installed[p] = true ∧ ∀ q : PoolNo, s.application.engine.pools[q] = _
    rw [engine]
    refine ⟨rfl, rfl, getElem_put_same .., fun q => ?_⟩
    by_cases same : p = q
    · subst same
      exact (getElem_put_same ..).trans (if_pos rfl).symm
    · exact (getElem_put_other _ _ _ _ same).trans (if_neg (Ne.symm same)).symm
  · have dropped : s.engine.dropped e = _ :=
      Engine.dropped_none drop (by rw [body]; simp [Body.kind])
    have effected := Engine.effected_snapEnd (g := s.engine) counts body
    rw [dropped] at effected
    have work := workOf_untouched (g := s.engine) (me := s.me) ended (by rw [effected]; rfl)
    have engine := State.application_engine queue current (by rw [body]; simp [Body.kind])
    rw [Engine.applySteps_eq, work, effected] at engine
    refine ⟨_, rfl, ?_⟩
    show s.application.engine.horizon = _ ∧ s.application.engine.historyRunning = _ ∧
      s.application.engine.pools = _ ∧ s.application.engine.slots = _ ∧
      (_ → s.application.engine.history = [(e.commit, s.application.engine.digest)])
    rw [engine]
    refine ⟨rfl, rfl, ?_, ?_, fun empty => ?_⟩
    · simp only [Engine.markNotices, Engine.report, Course.installEnd, Engine.begin]
    · simp only [Engine.markNotices, Engine.report, Course.installEnd, Engine.begin]
    · show appendHistory s.engine.history _ = _
      rw [empty]
      rfl
  · have effected := Engine.effected_snapEnd (g := s.engine) counts body
    have engine := State.application_engine queue current (by rw [body]; simp [Body.kind])
    rw [Engine.applySteps_eq, effected] at engine
    refine ⟨s.application, rfl, State.application_undecided queue current
      (by rw [body]; simp [Body.kind]) (by rw [effected]; rfl) own, State.application_offQueue queue, ?_⟩
    rw [State.winBody, engine]
    exact ⟨rfl, rfl, rfl, rfl⟩

end Sys2Proof.Machine
end


section
/-!
PROOFS. The codings of the fields of a record: each field reads back from its code, and whatever is read
as a field is the code of what it is read as (R95, R181, R182).
-/
namespace Sys2Proof.Machine

/-! ### Parts of a word -/

/-- The quarters of a word that four fields make. -/
theorem extractLsb'_of_quarters {w : Nat} (a b c d : BitVec w) :
    (a ++ b ++ c ++ d).extractLsb' 0 w = d ∧ (a ++ b ++ c ++ d).extractLsb' w w = c ∧
    (a ++ b ++ c ++ d).extractLsb' (w + w) w = b ∧
    (a ++ b ++ c ++ d).extractLsb' (w + w + w) w = a := by
  refine ⟨BitVec.extractLsb'_append_eq_right, ?_, ?_, ?_⟩
  · rw [BitVec.extractLsb'_append_eq_of_le le_rfl, Nat.sub_self]
    exact BitVec.extractLsb'_append_eq_right
  · rw [BitVec.extractLsb'_append_eq_of_le (by omega), Nat.add_sub_cancel,
      BitVec.extractLsb'_append_eq_of_le le_rfl, Nat.sub_self]
    exact BitVec.extractLsb'_append_eq_right
  · rw [BitVec.extractLsb'_append_eq_of_le (by omega), Nat.add_sub_cancel,
      BitVec.extractLsb'_append_eq_of_le (by omega), Nat.add_sub_cancel]
    exact BitVec.extractLsb'_append_eq_left

/-- A word is what its quarters make. -/
theorem append_quarters {w : Nat} (x : BitVec (w + w + w + w)) :
    x.extractLsb' (w + w + w) w ++ x.extractLsb' (w + w) w ++ x.extractLsb' w w ++
      x.extractLsb' 0 w = x := by
  rw [BitVec.extractLsb'_append_extractLsb'_eq_extractLsb' rfl,
    BitVec.extractLsb'_append_extractLsb'_eq_extractLsb' rfl,
    BitVec.extractLsb'_append_extractLsb'_eq_extractLsb' (Nat.zero_add w).symm]
  exact BitVec.extractLsb'_eq_self

@[simp] theorem bytes16_word16 (lo hi : Byte) : bytes16 (word16 lo hi) = [lo, hi] :=
  congrArg₂ (fun a b => [a, b]) BitVec.extractLsb'_append_eq_right BitVec.extractLsb'_append_eq_left

@[simp] theorem word16_bytes (x : BitVec 16) :
    word16 (x.extractLsb' 0 8) (x.extractLsb' 8 8) = x :=
  (BitVec.extractLsb'_append_extractLsb'_eq_extractLsb' rfl).trans BitVec.extractLsb'_eq_self

@[simp] theorem bytes32_word32 (b0 b1 b2 b3 : Byte) :
    bytes32 (word32 b0 b1 b2 b3) = [b0, b1, b2, b3] := by
  obtain ⟨e0, e1, e2, e3⟩ := extractLsb'_of_quarters b3 b2 b1 b0
  simpa [bytes32] using ⟨e0, e1, e2, e3⟩

@[simp] theorem word32_bytes (x : BitVec 32) :
    word32 (x.extractLsb' 0 8) (x.extractLsb' 8 8) (x.extractLsb' 16 8) (x.extractLsb' 24 8) = x :=
  append_quarters (w := 8) x

theorem bytes32_of_word32_eq {b0 b1 b2 b3 : Byte} {x : BitVec 32} (h : word32 b0 b1 b2 b3 = x) :
    bytes32 x = [b0, b1, b2, b3] :=
  h ▸ bytes32_word32 b0 b1 b2 b3

/-! ### Fields of one byte or less (R181, R182) -/

@[simp] theorem byteOfNat_toNat (b : Byte) : byteOfNat b.toNat = b := by
  simp [byteOfNat]

theorem toNat_byteOfNat {n : Nat} (small : n < 256) : (byteOfNat n).toNat = n := by
  simp [byteOfNat, Nat.mod_eq_of_lt small]

@[simp] theorem finOfByte_byteOfNat {n : Nat} (small : n ≤ 256) (k : Fin n) :
    finOfByte n (byteOfNat k.val) = some k := by
  simp [finOfByte, toNat_byteOfNat (k.isLt.trans_le small)]

theorem finOfByte_eq_some {n : Nat} {b : Byte} {k : Fin n} (h : finOfByte n b = some k) :
    b = byteOfNat k.val := by
  unfold finOfByte at h
  split at h <;> cases h
  simp

@[simp] theorem stationOfNibble_ofNat (k : StationNo) :
    stationOfNibble (BitVec.ofNat 4 k.val) = some k := by
  revert k; decide

theorem stationOfNibble_eq_some {x : Nibble} {k : StationNo} (h : stationOfNibble x = some k) :
    x = BitVec.ofNat 4 k.val := by
  unfold stationOfNibble at h
  split at h <;> cases h
  simp

@[simp] theorem kindOfCode_code (k : Kind) : kindOfCode k.code = some k := by
  cases k <;> rfl

theorem kindOfCode_eq_some {b : Byte} {k : Kind} (h : kindOfCode b = some k) : b = k.code := by
  unfold kindOfCode at h
  have named := List.find?_some h
  exact (beq_iff_eq.mp named).symm

@[simp] theorem parseFlag_flagByte (f : Bool) : parseFlag (flagByte f) = some f := by
  cases f <;> rfl

theorem parseFlag_eq_some {b : Byte} {f : Bool} (h : parseFlag b = some f) : b = flagByte f := by
  unfold parseFlag at h
  split_ifs at h with off on <;> cases h
  · exact beq_iff_eq.mp off
  · exact beq_iff_eq.mp on

@[simp] theorem parseClaimState_code (s : ClaimState) : parseClaimState s.code = some s := by
  cases s <;> rfl

theorem parseClaimState_eq_some {b : Byte} {s : ClaimState} (h : parseClaimState b = some s) :
    b = s.code := by
  unfold parseClaimState at h
  split_ifs at h with held waiting <;> cases h
  · exact beq_iff_eq.mp held
  · exact beq_iff_eq.mp waiting

@[simp] theorem parseClassWait_classWaitByte (cls : Fin 4) (wait : Bool) :
    parseClassWait (classWaitByte cls wait) = some (cls, wait) := by
  revert cls wait; decide

/-- The wait option is the high nibble of its byte, the class the low one (R182). -/
theorem parseClassWait_eq_some {b : Byte} {cls : Fin 4} {wait : Bool}
    (h : parseClassWait b = some (cls, wait)) : b = classWaitByte cls wait := by
  have halves : ∀ x : Byte, x = (x >>> 4) <<< 4 ||| (x &&& 0x0F#8) := by decide
  have encoded : ∀ k : Fin 4, 0x00#8 <<< 4 ||| byteOfNat k.val = classWaitByte k false ∧
      0x01#8 <<< 4 ||| byteOfNat k.val = classWaitByte k true := by decide
  unfold parseClassWait at h
  split at h
  · rename_i k low
    have low := finOfByte_eq_some low
    split_ifs at h with now waits <;> cases h
    · rw [halves b, beq_iff_eq.mp now, low]; exact (encoded cls).1
    · rw [halves b, beq_iff_eq.mp waits, low]; exact (encoded cls).2
  · cases h

/-! ### The roster and the sync list (R182) -/

@[simp] theorem parsePresence_code (p : Presence) : parsePresence p.code = some p := by
  cases p <;> rfl

theorem parsePresence_eq_some {c : BitVec 2} {p : Presence} (h : parsePresence c = some p) :
    c = p.code := by
  unfold parsePresence at h
  split_ifs at h with absent syncing active <;> cases h
  · exact beq_iff_eq.mp absent
  · exact beq_iff_eq.mp syncing
  · exact beq_iff_eq.mp active

@[simp] theorem parseRosterByte_codes (p0 p1 p2 p3 : Presence) :
    parseRosterByte (p3.code ++ p2.code ++ p1.code ++ p0.code) = some (p0, p1, p2, p3) := by
  obtain ⟨e0, e1, e2, e3⟩ := extractLsb'_of_quarters p3.code p2.code p1.code p0.code
  unfold parseRosterByte
  rw [e0, e1, e2, e3]
  simp only [parsePresence_code]

theorem parseRosterByte_eq_some {b : Byte} {p0 p1 p2 p3 : Presence}
    (h : parseRosterByte b = some (p0, p1, p2, p3)) :
    b = p3.code ++ p2.code ++ p1.code ++ p0.code := by
  unfold parseRosterByte at h
  split at h
  · rename_i e0 e1 e2 e3
    cases h
    rw [← parsePresence_eq_some e0, ← parsePresence_eq_some e1, ← parsePresence_eq_some e2,
      ← parsePresence_eq_some e3]
    exact (append_quarters (w := 2) b).symm
  · cases h

theorem parseRoster_eq_some {lo hi : Byte} {r : Roster} (h : parseRoster lo hi = some r) :
    rosterBytes r = [lo, hi] := by
  unfold parseRoster at h
  split at h
  · rename_i low high
    cases h
    rw [parseRosterByte_eq_some low, parseRosterByte_eq_some high]
    rfl
  · cases h

/-- The two bytes of a roster read back as that roster. -/
theorem parseRoster_codes (r : Roster) :
    parseRoster
      (r[(3 : Fin 8)].code ++ r[(2 : Fin 8)].code ++ r[(1 : Fin 8)].code ++ r[(0 : Fin 8)].code)
      (r[(7 : Fin 8)].code ++ r[(6 : Fin 8)].code ++ r[(5 : Fin 8)].code ++ r[(4 : Fin 8)].code) =
    some r := by
  simp only [parseRoster, parseRosterByte_codes, Option.some.injEq]
  ext i hi
  interval_cases i <;> rfl

theorem parseStations_map (list : List StationNo) (nodup : list.Nodup) :
    parseStations (list.map (fun k => byteOfNat k.val)) = some list := by
  induction list with
  | nil => rfl
  | cons k ks ih =>
    obtain ⟨new, nodup⟩ := List.nodup_cons.mp nodup
    simp [parseStations, ih nodup, new]

theorem parseStations_eq_some {bytes : List Byte} {list : List StationNo}
    (h : parseStations bytes = some list) : list.map (fun k => byteOfNat k.val) = bytes := by
  induction bytes generalizing list with
  | nil => cases h; rfl
  | cons b rest ih =>
    unfold parseStations at h
    split at h
    · rename_i k ks head tail
      split at h <;> cases h
      rw [List.map_cons, ih tail, finOfByte_eq_some head]
    · cases h

end Sys2Proof.Machine
end


section
/-!
PROOFS. Bodies and whole records: what the form checks of R95 read from the bytes of a well-formed
record, and from which bytes they read a record (R93, R181, Tables 23, 43 and 44).
-/
namespace Sys2Proof.Machine

/-! ### The bodies of SNAP-CLAIM, SNAP-POOL and SNAP-HEAD (Table 44) -/

/-- R8 says of a well-formed claim whether its held-stamp field is read. -/
theorem parseClaimBody_claimBody (slot : SlotNo) (c : Claim) (formed : c.formed = true) :
    parseClaimBody (claimBody slot c) = some (slot, c) := by
  obtain ⟨units, held⟩ := (Claim.formed_iff c).mp formed
  obtain ⟨state, holder, pool, u, cls, tag, stamp, heldStamp, bumped⟩ := c
  dsimp only at units held
  cases heldStamp with
  | none =>
    have zero : word32 0#8 0#8 0#8 0#8 = 0#32 := rfl
    simp [claimBody, parseClaimBody, bytes16, bytes32, heldStampField, units, ← held, zero]
  | some n => simp [claimBody, parseClaimBody, bytes16, bytes32, heldStampField, units, ← held]

theorem claimBody_of_parse {bytes : List Byte} {slot : SlotNo} {c : Claim}
    (h : parseClaimBody bytes = some (slot, c)) : claimBody slot c = bytes := by
  unfold parseClaimBody at h
  split at h
  · split at h
    · rename_i slotField stateField holderField poolField clsField bumpedField
      dsimp only at h
      split_ifs at h with units absent present <;> cases h <;>
        simp only [claimBody, heldStampField, bytes16_word16, bytes32_word32, Option.getD,
          ← finOfByte_eq_some slotField, ← parseClaimState_eq_some stateField,
          ← finOfByte_eq_some holderField, ← finOfByte_eq_some poolField,
          ← finOfByte_eq_some clsField, ← parseFlag_eq_some bumpedField]
      · rfl
      · rw [bytes32_of_word32_eq (by simpa [present] using absent)]
        rfl
    · cases h
  · cases h

theorem parsePoolBody_poolBody (p : PoolNo) (f : Pool) (granted : f.granted.toNat ≤ f.capacity.toNat)
    (waiting : f.waiting ≤ 64) : parsePoolBody (poolBody p f) = some (p, f) := by
  have count : (byteOfNat f.waiting).toNat = f.waiting := toNat_byteOfNat (by omega)
  simp [poolBody, parsePoolBody, bytes16, count, granted, waiting]

theorem poolBody_of_parse {bytes : List Byte} {p : PoolNo} {f : Pool}
    (h : parsePoolBody bytes = some (p, f)) : poolBody p f = bytes := by
  unfold parsePoolBody at h
  split at h
  · split at h
    · rename_i poolField dueField
      dsimp only at h
      split_ifs at h
      cases h
      simp [poolBody, ← finOfByte_eq_some poolField, ← parseFlag_eq_some dueField]
    · cases h
  · cases h

theorem parseHeadBody_bytes (target : StationNo) (number : CommitNo) (roster : Roster)
    (list : List StationNo) (few : list.length ≤ 7) (nodup : list.Nodup) :
    parseHeadBody target (Body.snapHead target number roster list).bytes =
      some (.snapHead target number roster list) := by
  have count : (byteOfNat list.length).toNat = list.length := toNat_byteOfNat (by omega)
  simp only [Body.bytes, parseHeadBody, bytes32, rosterBytes, List.cons_append, List.nil_append,
    parseRoster_codes, parseStations_map _ nodup, word32_bytes, count, List.length_map, ne_eq,
    not_true_eq_false, if_false, if_neg (not_lt.mpr few)]

theorem headBody_of_parse {target : StationNo} {bytes : List Byte} {b : Body}
    (h : parseHeadBody target bytes = some b) :
    b.kind = .snapHead ∧ b.target = some target ∧ b.bytes = bytes := by
  unfold parseHeadBody at h
  split at h
  · split at h
    · rename_i rosterField entries
      split_ifs at h with long count
      cases h
      have length := (parseStations_nodup _ _ entries).2
      refine ⟨rfl, rfl, ?_⟩
      simp [Body.bytes, parseRoster_eq_some rosterField, parseStations_eq_some entries, length,
        not_not.mp count]
    · cases h
  · cases h

/-! ### The body of each kind (Tables 23 and 44) -/

/-- The target that a body names on the bus: 0 where its kind carries none (R84, R181). -/
def Body.targetField (b : Body) : StationNo := b.target.getD 0

/-- The body of a well-formed record reads back whole. -/
theorem parseBody_bytes (r : Record) (formed : r.formed = true) :
    parseBody r.body.kind r.body.targetField r.body.bytes = some r.body := by
  obtain ⟨sender, b⟩ := r
  unfold Record.formed at formed
  cases b with
  | join site => simp [parseBody, Body.kind, Body.targetField, Body.target, Body.bytes, bytes16]
  | leave => rfl
  | claim pool units cls wait tag =>
    have some_units : units ≠ 0#16 := by simpa using formed
    simp [parseBody, Body.kind, Body.targetField, Body.target, Body.bytes, bytes16, some_units]
  | release slot tag => simp [parseBody, Body.kind, Body.targetField, Body.target, Body.bytes]
  | trim slot tag units =>
    have some_units : units ≠ 0#16 := by simpa using formed
    simp [parseBody, Body.kind, Body.targetField, Body.target, Body.bytes, bytes16, some_units]
  | setcap pool capacity =>
    simp [parseBody, Body.kind, Body.targetField, Body.target, Body.bytes, bytes16]
  | audit number digest =>
    simp [parseBody, Body.kind, Body.targetField, Body.target, Body.bytes, bytes32]
  | snapHead target number roster list =>
    simp only [Bool.and_eq_true, decide_eq_true_eq] at formed
    obtain ⟨few, nodup⟩ := formed
    exact parseHeadBody_bytes target number roster list few nodup
  | snapClaim target slot c =>
    exact congrArg (Option.map _) (parseClaimBody_claimBody slot c formed)
  | snapPool target p f =>
    simp only [Bool.and_eq_true, decide_eq_true_eq] at formed
    obtain ⟨granted, waiting⟩ := formed
    exact congrArg (Option.map _) (parsePoolBody_poolBody p f granted waiting)
  | snapEnd target count =>
    have few : count ≤ 64 := by simpa using formed
    have field : (byteOfNat count).toNat = count := toNat_byteOfNat (by omega)
    simp [parseBody, Body.kind, Body.targetField, Body.target, Body.bytes, Kind.exclusive, field, few]

/-- A body that passes has the kind, the target and the bytes it was read from. -/
theorem body_of_parse {k : Kind} {target : StationNo} {bytes : List Byte} {b : Body}
    (h : parseBody k target bytes = some b) :
    b.kind = k ∧ b.targetField = target ∧ b.bytes = bytes := by
  unfold parseBody at h
  split at h
  · cases h
  · rename_i unaddressed
    have noTarget : k.exclusive = false → target = 0 := by simpa using unaddressed
    cases k with dsimp only at h
    | join =>
      split at h <;> cases h
      exact ⟨rfl, (noTarget rfl).symm, bytes16_word16 _ _⟩
    | leave =>
      split at h <;> cases h
      exact ⟨rfl, (noTarget rfl).symm, rfl⟩
    | claim =>
      split at h
      · split at h
        · rename_i poolField classField
          split at h <;> cases h
          refine ⟨rfl, (noTarget rfl).symm, ?_⟩
          simp [Body.bytes, ← finOfByte_eq_some poolField, ← parseClassWait_eq_some classField]
        · cases h
      · cases h
    | release =>
      split at h
      · obtain ⟨slot, slotField, rfl⟩ := Option.map_eq_some_iff.mp h
        exact ⟨rfl, (noTarget rfl).symm, by rw [finOfByte_eq_some slotField]; rfl⟩
      · cases h
    | trim =>
      split at h
      · split at h
        · cases h
        · obtain ⟨slot, slotField, rfl⟩ := Option.map_eq_some_iff.mp h
          refine ⟨rfl, (noTarget rfl).symm, ?_⟩
          simp [Body.bytes, ← finOfByte_eq_some slotField]
      · cases h
    | setcap =>
      split at h
      · obtain ⟨pool, poolField, rfl⟩ := Option.map_eq_some_iff.mp h
        refine ⟨rfl, (noTarget rfl).symm, ?_⟩
        simp [Body.bytes, ← finOfByte_eq_some poolField]
      · cases h
    | audit =>
      split at h <;> cases h
      refine ⟨rfl, (noTarget rfl).symm, ?_⟩
      simp [Body.bytes]
    | snapHead =>
      obtain ⟨kind, target, bytes⟩ := headBody_of_parse h
      exact ⟨kind, congrArg (Option.getD · 0) target, bytes⟩
    | snapClaim =>
      obtain ⟨⟨slot, c⟩, claim, rfl⟩ := Option.map_eq_some_iff.mp h
      exact ⟨rfl, rfl, claimBody_of_parse claim⟩
    | snapPool =>
      obtain ⟨⟨p, f⟩, pool, rfl⟩ := Option.map_eq_some_iff.mp h
      exact ⟨rfl, rfl, poolBody_of_parse pool⟩
    | snapEnd =>
      split at h
      · split at h <;> cases h
        exact ⟨rfl, rfl, congrArg (fun n => [n]) (byteOfNat_toNat _)⟩
      · cases h

/-! ### The record and its CRC-16 (R93, R95, R181) -/

theorem targetSenderByte_eq (r : Record) :
    targetSenderByte r = BitVec.ofNat 4 r.body.targetField.val ++ BitVec.ofNat 4 r.sender.val := by
  unfold targetSenderByte Body.targetField
  cases r.body.target <;> rfl

@[simp] theorem stationOfNibble_target (r : Record) :
    stationOfNibble ((targetSenderByte r).extractLsb' 4 4) = some r.body.targetField := by
  rw [targetSenderByte_eq]
  exact (congrArg _ BitVec.extractLsb'_append_eq_left).trans (stationOfNibble_ofNat _)

@[simp] theorem stationOfNibble_sender (r : Record) :
    stationOfNibble ((targetSenderByte r).extractLsb' 0 4) = some r.sender := by
  rw [targetSenderByte_eq]
  exact (congrArg _ BitVec.extractLsb'_append_eq_right).trans (stationOfNibble_ofNat _)

/-- The byte whose nibbles name the target and the sender of a record is its target-and-sender byte. -/
theorem targetSenderByte_of_nibbles {ts : Byte} {r : Record}
    (target : stationOfNibble (ts.extractLsb' 4 4) = some r.body.targetField)
    (sender : stationOfNibble (ts.extractLsb' 0 4) = some r.sender) : targetSenderByte r = ts := by
  rw [targetSenderByte_eq, ← stationOfNibble_eq_some target, ← stationOfNibble_eq_some sender]
  exact (BitVec.extractLsb'_append_extractLsb'_eq_extractLsb' rfl).trans BitVec.extractLsb'_eq_self

/-- The bytes of a record that its CRC covers (R93). -/
def Record.covered (r : Record) : List Byte :=
  r.body.kind.code :: targetSenderByte r :: r.body.bytes

theorem Record.bytes_eq (r : Record) : r.bytes = r.covered ++ bytes16 (crc16 r.covered) := rfl

/-- Settles O52: the CRC is that of the bytes before it, and each field reads back. -/
theorem recordsReadBackWhole : Obligations.RecordsReadBackWhole := by
  intro r formed
  have length : r.bytes.length - 2 = r.covered.length := by
    simp [Record.bytes_eq, bytes16]
  have before : r.bytes.take (r.bytes.length - 2) = r.covered := by
    rw [length, Record.bytes_eq, List.take_left]
  have after : r.bytes.drop (r.bytes.length - 2) = bytes16 (crc16 r.covered) := by
    rw [length, Record.bytes_eq, List.drop_left]
  simp only [parseRecord, before, after, ne_eq, not_true_eq_false, if_false, Record.covered,
    kindOfCode_code, stationOfNibble_target, stationOfNibble_sender, parseBody_bytes r formed,
    Option.map_some]

/-- Settles O53: the bytes before the CRC are those the record covers, and the CRC is theirs. -/
theorem onlyEncodingsPassTheFormChecks : Obligations.OnlyEncodingsPassTheFormChecks := by
  intro bytes r h
  refine ⟨parseRecord_formed bytes r h, ?_⟩
  unfold parseRecord at h
  dsimp only at h
  split at h
  · cases h
  · rename_i crc
    split at h
    · rename_i kind ts body covered
      split at h
      · rename_i sender kindField targetField senderField
        obtain ⟨b, parsed, rfl⟩ := Option.map_eq_some_iff.mp h
        obtain ⟨rfl, rfl, rfl⟩ := body_of_parse parsed
        have same : Record.covered ⟨sender, b⟩ = bytes.take (bytes.length - 2) := by
          rw [covered, Record.covered, targetSenderByte_of_nibbles targetField senderField,
            kindOfCode_eq_some kindField]
        rw [Record.bytes_eq, same, ← not_not.mp crc]
        exact List.take_append_drop _ _
      · cases h
    · cases h

end Sys2Proof.Machine
end


section
/-!
PROOFS. The commits of another station's membership and snapshot records at the stations that stay in the
group (R76, R105, R114, R120, R122, R124, R130, R140) and at those that the no-donor rule takes out (R106).
-/
namespace Sys2Proof.Machine

/-! ### The donor's cursor (R122, R124) -/

section
variable {s n : State} {r : Record} {was : Bool} {before : List StationNo}

/-- A donation that begins, or goes on with another head, starts at HEAD. -/
theorem State.cursorAt_head (donor : n.isDonor = true)
    (moves : was = false ∨ before.head? ≠ n.bus.syncList.head?) :
    (n.cursorAt r was before).request.cursor = Cursor.headFor n.bus.syncList.head? := by
  have again : (!was || before.head? != n.bus.syncList.head? ||
      (r.body.kind == .join && before.head? == some r.sender)) = true := by
    rcases moves with begins | differs
    · rw [begins]; rfl
    · rw [bne_iff_ne.mpr differs, Bool.or_true, Bool.true_or]
  simp only [State.cursorAt, donor, again, if_true]

/-- A donation that ends leaves the cursor IDLE. -/
theorem State.cursorAt_idle (donor : n.isDonor = false) :
    (n.cursorAt r true before).request.cursor = Cursor.idle := by
  simp [State.cursorAt, donor]

theorem State.handOn_cursor (s n : State) (r : Record) (installs : Bool) :
    (s.handOn r installs n).request.cursor =
      (n.cursorAt r s.isDonor s.bus.syncList).request.cursor := by
  unfold State.handOn
  dsimp only
  rw [State.setEventIf_request, State.setEventIf_request]
  split
  · exact State.freezeBegins_request_cursor _
  · rfl

/-- Under a freeze no AUDIT becomes due (R151). -/
theorem State.handOn_auditDue (frozen : s.freeze = true) (installs : Bool) :
    (s.handOn r installs n).request.auditDue = n.request.auditDue := by
  unfold State.handOn
  simp [frozen]

end

/-! ### What every such commit reports -/

section
variable {s : State} {r : Record} {ack : BitVec 8}

/-- The request unit's lists stay: another's record ends no request. -/
theorem State.commits_lists (stays : exitAt s false (commitOf s r ack) = none) :
    (s.commitMember r false ack).openWindow.choose.request.lrq = s.request.lrq ∧
    (s.commitMember r false ack).openWindow.choose.request.outcomes = s.request.outcomes ∧
    (s.commitMember r false ack).openWindow.choose.request.completions = s.request.completions := by
  obtain ⟨-, -, -, -, lrq, outcomes, completions⟩ := s.handOn_frame (s.numbered r ack) r
    ((carriedHead s r).isSome && !(commitOf s r ack).isVoid)
  rw [State.choose_request_lrq, State.choose_request_outcomes, State.choose_request_completions,
    State.openWindow_request, State.commitMember_other stays, lrq, outcomes, completions]
  simp [State.numbered]

/-- No commit makes the replica current or stale, but for an exit (R29). -/
theorem State.commits_currency (stays : exitAt s false (commitOf s r ack) = none) :
    (s.commitMember r false ack).openWindow.choose.engine.stale = s.engine.stale ∧
    (s.commitMember r false ack).openWindow.choose.engine.current = s.engine.current := by
  obtain ⟨-, engine, -⟩ := s.handOn_frame (s.numbered r ack) r
    ((carriedHead s r).isSome && !(commitOf s r ack).isVoid)
  rw [State.choose_engine, State.openWindow_engine, State.commitMember_other stays, engine]
  simp [State.numbered]

theorem State.commits_flag_other (stays : exitAt s false (commitOf s r ack) = none) {f : Event}
    (freeze : f ≠ .freeze) (donation : f ≠ .donation) :
    (s.commitMember r false ack).openWindow.choose.host.flag f = (s.numbered r ack).host.flag f := by
  rw [State.commits_flag stays, beq_false_of_ne freeze, beq_false_of_ne donation]
  simp

theorem State.commits_tables (s : State) (r : Record) (ack : BitVec 8) :
    (s.commitMember r false ack).openWindow.choose.engine.pools = s.engine.pools ∧
    (s.commitMember r false ack).openWindow.choose.engine.slots = s.engine.slots := by
  simp

/-- FREEZE, DONATION and the cursor follow the change of roster and sync list (R76, R122, R124). -/
theorem State.commits_follow (stays : exitAt s false (commitOf s r ack) = none) :
    FreezeAndDonationFollow s (s.commitMember r false ack).openWindow.choose := by
  have bus := (State.commits_frame stays).1
  have donor : (s.commitMember r false ack).openWindow.choose.isDonor = (s.numbered r ack).isDonor := by
    rw [State.isDonor, State.me, bus, State.isDonor, State.me]
  have list : (s.commitMember r false ack).openWindow.choose.bus.syncList =
      (s.numbered r ack).bus.syncList := by rw [bus]
  have cursor : (s.commitMember r false ack).openWindow.choose.request.cursor =
      ((s.numbered r ack).cursorAt r s.isDonor s.bus.syncList).request.cursor := by
    rw [State.choose_request_cursor, State.openWindow_request, State.commitMember_other stays,
      State.handOn_cursor]
  refine ⟨fun changes => ?_, fun changes => ?_, fun donates moves => ?_, fun donated ends => ?_⟩
  · rw [State.commits_freeze stays] at changes
    rw [State.commits_flag stays, bne_iff_ne.mpr changes]
    simp
  · rw [donor] at changes
    rw [State.commits_flag stays, bne_iff_ne.mpr changes]
    simp
  · rw [donor] at donates
    rw [list] at moves ⊢
    rw [cursor, State.cursorAt_head donates moves]
    rfl
  · rw [donor] at ends
    rw [cursor, donated, State.cursorAt_idle ends]
    exact ⟨rfl, rfl⟩

/-- The record's leaving the open list is no change that FREEZE, DONATION or the cursor follow. -/
theorem FreezeAndDonationFollow.of_off {t : State} {rest : List OpenRecord}
    (h : FreezeAndDonationFollow (s.offOpenList rest) t) : FreezeAndDonationFollow s t :=
  ⟨h.1, h.2.1, h.2.2.1, h.2.2.2⟩

/-- After the close of another's record at a member not treated as SYNCING. -/
theorem State.commits_synced (synced : s.control.inSyncing = false) :
    (s.commitMember r false ack).openWindow.choose.bus = { s.bus with
      commit := (commitOf s r ack).number, roster := (commitOf s r ack).after.roster
      syncList := (commitOf s r ack).after.list
      applyQueue := s.bus.applyQueue ++ [(commitOf s r ack).entry r s.bus.syncList]
      window := (s.commitMember r false ack).openWindow.choose.bus.window } ∧
    (s.commitMember r false ack).openWindow.choose.control = s.control := by
  obtain ⟨bus, control, -⟩ := State.commitMember_synced (r := r) (ack := ack) synced
  rw [State.choose_bus, State.choose_control, State.openWindow_control, State.openWindow_bus_eq, bus,
    control]
  exact ⟨rfl, rfl⟩

end

/-! ### Roster and sync list after steps 1 and 2 (R105) -/

section
variable {me k : StationNo} {r : Record} {ack : BitVec 8} {number : CommitNo} {x : Standing}
  {gone : List StationNo}

/-- A station whose ACK line is asserted is not dropped (R73). -/
theorem not_mem_dropSet_of_line {roster : Roster} (there : lineOf ack k = true) :
    k ∉ dropSet me roster ack := by
  rw [mem_dropSet_iff, there]
  simp

/-- A record that is no JOIN is void where its sender is dropped; with this station ACTIVE after step 2
the no-donor rule does not act. -/
theorem commitOver_active (kind : r.body.kind ≠ .join)
    (active : (x.twoSteps (dropSet me x.roster ack) ((dropSet me x.roster ack).contains r.sender)
      r).roster[k] = .active) :
    commitOver me r ack number x = ⟨number, dropSet me x.roster ack,
      (dropSet me x.roster ack).contains r.sender,
      x.twoSteps (dropSet me x.roster ack) ((dropSet me x.roster ack).contains r.sender) r,
      x.twoSteps (dropSet me x.roster ack) ((dropSet me x.roster ack).contains r.sender) r⟩ := by
  have isVoid : ((dropSet me x.roster ack).contains r.sender && r.body.kind != .join) =
      (dropSet me x.roster ack).contains r.sender := by rw [bne_iff_ne.mpr kind, Bool.and_true]
  simp only [commitOver, isVoid, (Standing.settle_of_active active).2]

/-- The kinds that neither are ordinary nor LEAVE. -/
theorem Record.kind_of_thins (thins : r.body.kind.ordinary = true ∨ r.body = .leave) {kind : Kind}
    (other : kind.ordinary = false) (noLeave : kind ≠ .leave) : r.body.kind ≠ kind := by
  rintro rfl
  rcases thins with ordinary | leave
  · cases ordinary.symm.trans other
  · exact noLeave (by rw [leave]; rfl)

theorem commitOver_mid (kind : r.body.kind ≠ .join) : (commitOver me r ack number x).mid =
    x.twoSteps (dropSet me x.roster ack) ((dropSet me x.roster ack).contains r.sender) r := by
  simp [commitOver, bne_iff_ne.mpr kind]

/-- The standing after a JOIN: its sender is SYNCING at the tail of the list (R105). -/
def Standing.joining (k : StationNo) (gone : List StationNo) (x : Standing) : Standing :=
  ⟨put (x.drop gone).roster k .syncing, (x.drop gone).list ++ [k]⟩

/-- A JOIN is never void (R105). -/
theorem commitOver_join {code : BitVec 16} (other : k ≠ me) (new : k ∉ x.list)
    (active : x.roster[me] = .active) :
    commitOver me ⟨k, .join code⟩ ack number x = ⟨number, dropSet me x.roster ack, false,
      x.joining k (dropSet me x.roster ack), x.joining k (dropSet me x.roster ack)⟩ := by
  have effect : (x.drop (dropSet me x.roster ack)).effect ⟨k, .join code⟩ =
      x.joining k (dropSet me x.roster ack) := by
    refine congrArg (fun list => Standing.mk _ (list ++ [k]))
      (List.filter_eq_self.mpr fun j on => bne_iff_ne.mpr ?_)
    rintro rfl
    exact new (List.mem_filter.mp on).1
  have stays : (x.joining k (dropSet me x.roster ack)).roster[me] = .active :=
    (getElem_put_other _ _ _ _ other).trans
      ((x.drop_kept (me_not_mem_dropSet _ _ _)).trans active)
  have isVoid : ((dropSet me x.roster ack).contains k && Kind.join != .join) = false := Bool.and_false _
  simp only [commitOver, Standing.twoSteps, Body.kind, isVoid, Bool.false_eq_true, if_false, effect,
    (Standing.settle_of_active stays).2]

/-- An ordinary record or a LEAVE, void or not, takes away the stations dropped and the LEAVE's sender. -/
theorem Standing.twoSteps_thins (x : Standing) (gone : List StationNo)
    (thins : r.body.kind.ordinary = true ∨ r.body = .leave) :
    (∀ k : StationNo, (x.twoSteps gone (gone.contains r.sender) r).roster[k] =
      if goneBy r gone k then .absent else x.roster[k]) ∧
    (x.twoSteps gone (gone.contains r.sender) r).list = x.list.filter (fun k => !goneBy r gone k) := by
  rcases thins with ordinary | leave
  · have goes : goneBy r gone = gone.contains := funext fun k => by
      have : (r.body.kind == .leave) = false := by
        rw [beq_eq_false_iff_ne]
        intro leave
        rw [leave] at ordinary
        cases ordinary
      rw [goneBy, this, Bool.false_and, Bool.or_false]
    rw [Standing.twoSteps, Standing.effect_plain _ (.inl ordinary), ite_self, goes]
    exact ⟨fun k => getElem_tab _ k, rfl⟩
  · have goes : ∀ k, goneBy r gone k = (gone.contains k || k == r.sender) := fun k => by
      rw [goneBy, leave]; rfl
    simp only [goes]
    rcases sender : gone.contains r.sender with _ | _
    · have effect : x.twoSteps gone false r = ⟨put (x.drop gone).roster r.sender .absent,
          (x.drop gone).list.filter (fun k => k != r.sender)⟩ := by
        simp [Standing.twoSteps, Standing.effect, leave]
      rw [effect]
      refine ⟨fun k => ?_, ?_⟩
      · by_cases same : r.sender = k
        · subst same
          rw [getElem_put_same, beq_self_eq_true, Bool.or_true, if_pos rfl]
        · rw [getElem_put_other _ _ _ _ same, x.drop_roster]
          simp [Ne.symm same]
      · simp [Standing.drop, List.filter_filter, Bool.and_comm, bne]
    · have sub : ∀ k, (gone.contains k || k == r.sender) = gone.contains k := fun k => by
        by_cases same : k = r.sender
        · rw [same, sender]; rfl
        · rw [beq_false_of_ne same, Bool.or_false]
      simp only [sub]
      exact ⟨fun k => getElem_tab _ k, rfl⟩

/-- A SNAP-END for the head of the list makes it ACTIVE, unless it is dropped (R105). -/
theorem Standing.twoSteps_end {target : StationNo} {count} (gone : List StationNo)
    (body : r.body = .snapEnd target count) (head : x.list.head? = some target)
    (nodup : x.list.Nodup) :
    (∀ k : StationNo, (x.twoSteps gone false r).roster[k] =
      if k ∈ gone then .absent else if k = target then .active else x.roster[k]) ∧
    (x.twoSteps gone false r).list = x.list.filter (fun k => !gone.contains k && k != target) := by
  obtain ⟨others, list⟩ : ∃ others, x.list = target :: others := List.head?_eq_some_iff.mp head
  have fresh : target ∉ others := by
    rw [list, List.nodup_cons] at nodup
    exact nodup.1
  have rest : others.filter (fun k => !gone.contains k && k != target) =
      others.filter (fun k => !gone.contains k) := by
    refine List.filter_congr fun k on => ?_
    rw [bne_iff_ne.mpr (fun same : k = target => fresh (same ▸ on)), Bool.and_true]
  have twoSteps : x.twoSteps gone false r = (x.drop gone).effect r := rfl
  have dropped : (x.drop gone).list = (target :: others).filter (fun k => !gone.contains k) := by
    rw [← list]; rfl
  rw [twoSteps, list, List.filter_cons_of_neg (by simp), rest]
  by_cases there : target ∈ gone
  · have tail : (x.drop gone).list = others.filter (fun k => !gone.contains k) := by
      rw [dropped, List.filter_cons_of_neg (by simpa using there)]
    have effect : (x.drop gone).effect r = x.drop gone := by
      have differs : (x.drop gone).list.head? ≠ some target := fun same => by
        have on := List.mem_of_head? same
        rw [tail] at on
        exact fresh (List.mem_filter.mp on).1
      simp [Standing.effect, body, differs]
    rw [effect]
    refine ⟨fun k => ?_, tail⟩
    rw [x.drop_roster]
    by_cases same : k = target
    · subst same; simp [there]
    · simp [same]
  · have kept : (x.drop gone).list = target :: others.filter (fun k => !gone.contains k) := by
      rw [dropped, List.filter_cons_of_pos (by simpa using there)]
    rw [Standing.effect_end body (by rw [kept]; rfl)]
    refine ⟨fun k => ?_, by rw [kept]; rfl⟩
    by_cases same : target = k
    · subst same
      rw [getElem_put_same, if_neg there, if_pos rfl]
    · rw [getElem_put_other _ _ _ _ same, x.drop_roster, if_neg (Ne.symm same)]

/-- A LEAVE takes its sender away, a SNAP-END moves the head of the list (R105). -/
theorem Standing.twoSteps_departs {left : StationNo} {roster : Roster} {list : List StationNo}
    (nodup : list.Nodup)
    (departs : r.body = .leave ∧ left = r.sender ∨ ∃ count, r.body = .snapEnd left count ∧
      list.head? = some left ∧ lineOf ack r.sender = true) :
    r.body.kind ≠ .join ∧
    (∀ k : StationNo, (Standing.twoSteps (dropSet me roster ack)
        ((dropSet me roster ack).contains r.sender) r ⟨roster, list⟩).roster[k] =
      if k ∈ dropSet me roster ack then .absent
      else if k = left then (if r.body = .leave then .absent else .active) else roster[k]) ∧
    (Standing.twoSteps (dropSet me roster ack)
        ((dropSet me roster ack).contains r.sender) r ⟨roster, list⟩).list =
      list.filter (fun k => !(dropSet me roster ack).contains k && k != left) := by
  rcases departs with ⟨leave, rfl⟩ | ⟨count, body, head, there⟩
  · obtain ⟨thinned, thinnedList⟩ := Standing.twoSteps_thins ⟨roster, list⟩ (dropSet me roster ack)
      (.inr leave : r.body.kind.ordinary = true ∨ r.body = .leave)
    have goes : ∀ k, goneBy r (dropSet me roster ack) k =
        ((dropSet me roster ack).contains k || k == r.sender) := fun k => by
      rw [goneBy, leave]; rfl
    refine ⟨by rw [leave]; exact nofun, fun k => ?_, ?_⟩
    · rw [thinned, goes, if_pos leave]
      by_cases there : k ∈ dropSet me roster ack
      · simp [there]
      · by_cases same : k = r.sender <;> simp [there, same]
    · rw [thinnedList]
      simp only [goes, Bool.not_or, bne]
  · have stays : (dropSet me roster ack).contains r.sender = false := by
      simpa using not_mem_dropSet_of_line there
    obtain ⟨ended, endedList⟩ := Standing.twoSteps_end (x := ⟨roster, list⟩) (dropSet me roster ack)
      body head nodup
    rw [stays, body]
    exact ⟨nofun, fun k => (ended k).trans (by simp), endedList⟩

end

/-! ### The no-donor rule (R106) -/

section
variable {s : State} {r : Record} {ack : BitVec 8}

theorem Standing.noDonor_iff (x : Standing) :
    x.noDonor = true ↔ x.list ≠ [] ∧ ∀ k : StationNo, x.roster[k] ≠ .active := by
  simp [Standing.noDonor, mem_upTo]

/-- Where the drop set or a LEAVE takes every ACTIVE station, a joiner on the list is left with no donor. -/
theorem Standing.twoSteps_noDonor {me : StationNo} {roster : Roster} {list : List StationNo}
    (thins : r.body.kind.ordinary = true ∨ r.body = .leave) (notMe : r.sender ≠ me) (on : me ∈ list)
    (syncing : roster[me] = .syncing)
    (donors : ∀ k : StationNo, roster[k] = .active →
      k ∈ dropSet me roster ack ∨ r.body = .leave ∧ k = r.sender) :
    let mid := Standing.twoSteps (dropSet me roster ack) ((dropSet me roster ack).contains r.sender) r
      ⟨roster, list⟩
    mid.noDonor = true ∧ mid.roster[me] = .syncing := by
  intro mid
  obtain ⟨thinned, thinnedList⟩ := Standing.twoSteps_thins ⟨roster, list⟩ (dropSet me roster ack) thins
  have stays : goneBy r (dropSet me roster ack) me = false := by
    simp [goneBy, me_not_mem_dropSet, Ne.symm notMe]
  have goes : ∀ k : StationNo, roster[k] = .active → goneBy r (dropSet me roster ack) k = true :=
    fun k active => by
      rcases donors k active with dropped | ⟨leave, rfl⟩
      · simp [goneBy, dropped]
      · simp [goneBy, leave, Body.kind]
  refine ⟨mid.noDonor_iff.mpr ⟨List.ne_nil_of_mem (a := me) ?_, fun k active => ?_⟩, ?_⟩
  · rw [thinnedList]
    exact List.mem_filter.mpr ⟨on, by rw [stays]; rfl⟩
  · rw [thinned] at active
    split at active
    · cases active
    · rename_i there
      exact there (goes k active)
  · rw [thinned, stays]
    exact syncing

/-- A joiner whose group has lost its last ACTIVE station leaves with NO_DONOR. -/
theorem exitAt_noDonor {c : Commit} (syncing : s.control.inSyncing = true)
    (noDonor : c.mid.noDonor = true) (joiner : c.mid.roster[s.me] = .syncing) :
    exitAt s false c = some .noDonor := by
  simp [exitAt, syncing, noDonor, joiner]

/-- At a LOADING station the commit that takes the last ACTIVE station away is numbered, and its exit. -/
theorem exitAt_lastDonor (loading : s.control.loading = true) (syncing : s.bus.roster[s.me] = .syncing)
    (on : s.me ∈ s.bus.syncList) (thins : r.body.kind.ordinary = true ∨ r.body = .leave)
    (notMe : r.sender ≠ s.me) (donors : ∀ k : StationNo, s.bus.roster[k] = .active →
      k ∈ dropSet s.me s.bus.roster ack ∨ r.body = .leave ∧ k = r.sender) :
    exitAt s false (commitOf s r ack) = some .noDonor ∧
    (commitOf s r ack).number = s.bus.commit + 1#32 := by
  obtain ⟨inSyncing, phase⟩ : s.control.inSyncing = true ∧ s.control.phase = .loading := by
    simpa [Controller.loading] using loading
  have commit := commitOf_held (r := r) (ack := ack) (by simp [Controller.awaiting, phase])
    (carriedHead_none s r (Record.kind_of_thins thins rfl (by decide)))
  have mid := commitOver_mid (me := s.me) (ack := ack) (number := s.bus.commit + 1#32)
    (x := ⟨s.bus.roster, s.bus.syncList⟩) (Record.kind_of_thins thins rfl (by decide))
  obtain ⟨noDonor, joiner⟩ := Standing.twoSteps_noDonor thins notMe on syncing donors
  rw [commit]
  exact ⟨exitAt_noDonor inSyncing (by rw [mid]; exact noDonor) (by rw [mid]; exact joiner), rfl⟩

/-- The state in which a commit that takes the station out is numbered and its entry has arrived (R74). -/
def State.lastNumbered (r : Record) (ack : BitVec 8) (s : State) : State :=
  State.arrive ((commitOf s r ack).entry r s.bus.syncList)
    { s with bus := { s.bus with commit := (commitOf s r ack).number } }

theorem State.lastNumbered_frame (s : State) (r : Record) (ack : BitVec 8) :
    (s.lastNumbered r ack).bus.commit = (commitOf s r ack).number ∧
    (∀ f, f ≠ .findDone → (s.lastNumbered r ack).host.flag f = s.host.flag f) ∧
    (s.lastNumbered r ack).engine.pools = s.engine.pools ∧
    (s.lastNumbered r ack).engine.slots = s.engine.slots ∧
    (s.lastNumbered r ack).request.lrq = s.request.lrq :=
  ⟨State.arrive_bus_commit _ _, fun f other => State.arrive_flag _ f other _,
    State.arrive_engine_pools _ _, State.arrive_engine_slots _ _, State.arrive_request_lrq _ _⟩

/-- The close of another's record that takes the station out: the exit, and nothing is chosen (R117). -/
theorem State.commits_leaves {cause : ExitCause}
    (leaves : exitAt s false (commitOf s r ack) = some cause) :
    (s.commitMember r false ack).openWindow.choose =
      ((s.lastNumbered r ack).enterOutside cause exitLastCmd).openWindow := by
  have exits : s.commitMember r false ack =
      (s.lastNumbered r ack).enterOutside cause exitLastCmd := by
    unfold State.commitMember
    simp only [leaves]
    rfl
  rw [exits, State.choose_of_idle_state]
  exact .inr (.inl (by rw [State.openWindow_control, State.enterOutside_control]; rfl))

theorem State.enterOutside_flag_other (cause : ExitCause) (last : Nat → LastCmd) {f : Event}
    (completion : f ≠ .completion) (outside : f ≠ .outside) (donation : f ≠ .donation) :
    (s.enterOutside cause last).host.flag f = s.host.flag f := by
  rw [State.enterOutside_flag _ _ _ _ completion, beq_false_of_ne outside, beq_false_of_ne donation]
  simp

/-- An own record that has not won does not outlive the exit (R157). -/
theorem State.lastNumbered_chosen {own : Own} (present : s.request.own = some own)
    (chosen : own.cond = .chosen) : (s.lastNumbered r ack).ownOnBus = none := by
  have arrived : (s.lastNumbered r ack).request.own = none ∨
      (s.lastNumbered r ack).request.own = some own := by
    rw [← present]
    unfold State.lastNumbered State.arrive State.discardBuilt
    split
    · split
      · exact .inl rfl
      · exact .inr (by rw [State.yieldScan_request])
    · exact .inr (by rw [State.yieldScan_request])
  rcases arrived with absent | same
  · exact State.ownOnBus_none absent
  · exact State.ownOnBus_chosen same chosen

end

/-! ### A record numbered, its phase not yet taken (R98, R114, R130, R140) -/

/-- The state in which a commit has been numbered and its entry has arrived, the phase yet to be taken. -/
def State.recorded (r : Record) (ack : BitVec 8) (s : State) : State :=
  State.arrive ((commitOf s r ack).entry r s.bus.syncList) { s with
    bus := { s.bus with
      commit := (commitOf s r ack).number, roster := (commitOf s r ack).after.roster
      syncList := (commitOf s r ack).after.list, tracker := trackerAt s r (commitOf s r ack) }
    control := s.control.timerAt r }

section
variable {s : State} {r : Record} {ack : BitVec 8} {number : CommitNo}

theorem State.numbered_eq (s : State) (r : Record) (ack : BitVec 8) : s.numbered r ack =
    (s.recorded r ack).phaseAt r (commitOf s r ack).number (commitOf s r ack).isVoid := rfl

theorem State.recorded_frame (s : State) (r : Record) (ack : BitVec 8) :
    (s.recorded r ack).bus = { s.bus with
      commit := (commitOf s r ack).number, roster := (commitOf s r ack).after.roster
      syncList := (commitOf s r ack).after.list, tracker := trackerAt s r (commitOf s r ack)
      applyQueue := s.bus.applyQueue ++ [(commitOf s r ack).entry r s.bus.syncList] } ∧
    (s.recorded r ack).control = s.control.timerAt r ∧
    (s.recorded r ack).request.auditDue = s.request.auditDue ∧
    ∀ f, f ≠ .findDone → (s.recorded r ack).host.flag f = s.host.flag f :=
  ⟨State.arrive_bus _ _, State.arrive_control _ _, State.arrive_request_auditDue _ _,
    fun f other => State.arrive_flag _ f other _⟩

/-- A record that is not addressed to this station moves no phase (R113). -/
theorem State.numbered_elsewhere (elsewhere : r.body.target ≠ some s.me) :
    s.numbered r ack = s.recorded r ack := by
  have me : (s.recorded r ack).me = s.me := by rw [State.me, (s.recorded_frame r ack).1, State.me]
  have other : r.addressedTo (s.recorded r ack).me = false := by
    rw [me]
    simpa [Record.addressedTo] using elsewhere
  rw [State.numbered_eq, State.phaseAt, other]
  simp

/-- A SNAP-END at a LEAVING station treated as SYNCING ends the phase and no more (R114). -/
theorem State.phaseAt_leaverEnd (leaving : s.control.station = .leaving)
    (kept : s.control.phaseKept = true) (target : r.body.target = some s.me)
    (kind : r.body.kind = .snapEnd) :
    s.phaseAt r number false = { s with control := { s.control with phaseKept := false } } := by
  obtain ⟨k, b⟩ := r
  cases b with
  | snapEnd => simp [State.phaseAt, Controller.inSyncing, leaving, kept, Record.addressedTo, target]
  | _ => cases kind

/-- The timer of a LEAVING station stays stopped (R114, R140). -/
theorem Controller.timerAt_leaving {c : Controller} (leaving : c.station = .leaving) :
    c.timerAt r = c := by
  simp [Controller.timerAt, leaving]

/-- A SNAP-HEAD moves a LEAVING station treated as SYNCING to LOADING (R114). -/
theorem State.numbered_leaverHead (leaving : s.control.station = .leaving)
    (kept : s.control.phaseKept = true) (target : r.body.target = some s.me)
    (kind : r.body.kind = .snapHead) (valid : (commitOf s r ack).isVoid = false) :
    s.numbered r ack =
      { s.recorded r ack with control := { s.control with phase := .loading } } := by
  obtain ⟨bus, control, -, -⟩ := s.recorded_frame r ack
  rw [Controller.timerAt_leaving leaving] at control
  have syncing : (s.recorded r ack).control.inSyncing = true := by
    simp [control, Controller.inSyncing, leaving, kept]
  rw [State.numbered_eq, valid, State.phaseAt_head syncing (by rw [State.me, bus]; exact target) kind,
    control]

/-- A SNAP-END ends its phase (R114). -/
theorem State.numbered_leaverEnd (leaving : s.control.station = .leaving)
    (kept : s.control.phaseKept = true) (target : r.body.target = some s.me)
    (kind : r.body.kind = .snapEnd) (valid : (commitOf s r ack).isVoid = false) :
    s.numbered r ack =
      { s.recorded r ack with control := { s.control with phaseKept := false } } := by
  obtain ⟨bus, control, -, -⟩ := s.recorded_frame r ack
  rw [Controller.timerAt_leaving leaving] at control
  rw [State.numbered_eq, valid, State.phaseAt_leaverEnd (by rw [control]; exact leaving)
    (by rw [control]; exact kept) (by rw [State.me, bus]; exact target) kind, control]

/-- A LEAVING station chooses its LEAVE: no AUDIT that is due is touched (R147). -/
theorem State.choose_leaving_auditDue (leaving : s.control.station = .leaving) :
    s.choose.request.auditDue = s.request.auditDue := by
  rcases own : s.request.own with _ | o
  · rw [State.choose_leaving s leaving own]
    rfl
  · rw [State.choose_of_own s (by rw [own]; exact Option.some_ne_none o)]

/-- With every station ABSENT none is dropped (R73). -/
theorem dropSet_allAbsent {me : StationNo} {roster : Roster}
    (absent : ∀ k : StationNo, roster[k] = .absent) : dropSet me roster ack = [] :=
  List.eq_nil_iff_forall_not_mem.mpr fun k on => ((mem_dropSet_iff me k roster ack).mp on).1 (absent k)

/-- A record addressed to another station carries no roster to this one (R72). -/
theorem carriedHead_elsewhere (elsewhere : r.body.target ≠ some s.me) : carriedHead s r = none := by
  obtain ⟨k, b⟩ := r
  cases b with
  | snapHead target =>
    exact if_neg fun mine => elsewhere (congrArg some mine.1)
  | _ => rfl

/-- A SNAP-HEAD addressed to a station treated as SYNCING carries number and standing (R72). -/
theorem carriedHead_mine (syncing : s.control.inSyncing = true) {roster : Roster}
    {list : List StationNo} (body : r.body = .snapHead s.me number roster list) :
    carriedHead s r = some (number, ⟨roster, list⟩) := by
  simp [carriedHead, body, syncing]

/-- A SNAP-END addressed to this station, the head of the list, its sender not dropped (R105). -/
theorem commitOf_end {count} (awaiting : s.control.awaiting = false)
    (body : r.body = .snapEnd s.me count) (head : s.bus.syncList.head? = some s.me)
    (kept : r.sender ∉ dropSet s.me s.bus.roster ack) :
    ∃ others, s.bus.syncList = s.me :: others ∧ commitOf s r ack =
      ⟨s.bus.commit + 1#32, dropSet s.me s.bus.roster ack, false,
        Standing.joined s.me (dropSet s.me s.bus.roster ack) s.bus.roster others,
        Standing.joined s.me (dropSet s.me s.bus.roster ack) s.bus.roster others⟩ := by
  obtain ⟨others, list⟩ := List.head?_eq_some_iff.mp head
  refine ⟨others, list, ?_⟩
  rw [commitOf_held awaiting (carriedHead_none s r (by rw [body]; exact nofun)), list]
  exact commitOver_end body kept

/-- The tracker keeps its phase at a record for another station (R98). -/
theorem trackerAt_elsewhere (elsewhere : r.body.target ≠ some s.me) (c : Commit) :
    (trackerAt s r c).phase = s.bus.tracker.phase := by
  unfold trackerAt
  split
  · rw [Tracker.commit_frees _ (.inl elsewhere)]
    rfl
  · rfl

/-- A station that holds no roster numbers a record and keeps it so (R104, R130). -/
theorem commitOf_awaiting (awaiting : s.control.awaiting = true) (carried : carriedHead s r = none)
    (absent : ∀ k : StationNo, s.bus.roster[k] = .absent) :
    commitOf s r ack = ⟨s.bus.commit + 1#32, [], false, ⟨s.bus.roster, s.bus.syncList⟩,
      ⟨s.bus.roster, s.bus.syncList⟩⟩ := by
  simp [commitOf, commitNumber, carried, awaiting, dropSet_allAbsent absent]

end

/-! ### The five commits -/

/-- Settles O33: each commit by the standing after its steps 1 and 2, and by what the station is then told. -/
theorem joinCommitBeginsTheFreeze : Obligations.JoinCommitBeginsTheFreeze := by
  refine ⟨fun ack code k o rest s station phase active notMe new window openList other there => ?_,
    fun ack r left o rest s station phase active notMe nodup departs window openList other there => ?_,
    fun ack r o rest s loading syncing onList thins notMe window openList other there donors => ?_,
    fun ack r o rest s awaiting absent noList elsewhere window openList other there => ?_,
    fun ack r o rest s leaving kept window openList other there sender =>
      ⟨fun number roster list body active notMe => ?_, fun count body phase head nodup => ?_⟩⟩
  -- A JOIN at an ACTIVE member (R105, R120): the record is valid and the member stays.
  · have synced : (s.offOpenList rest).control.inSyncing = false := by
      simp [State.offOpenList, Controller.inSyncing, station]
    have carried : carriedHead (s.offOpenList rest) ⟨k, .join code⟩ = none := rfl
    have commit : commitOf (s.offOpenList rest) ⟨k, .join code⟩ ack = _ :=
      (commitOf_held (by simp [Controller.awaiting, synced]) carried).trans
        (commitOver_join notMe new active)
    have stays : exitAt (s.offOpenList rest) false (commitOf (s.offOpenList rest) ⟨k, .join code⟩ ack) =
        none := exitAt_synced synced
    obtain ⟨bus, control⟩ := State.commits_synced (r := ⟨k, .join code⟩) (ack := ack) synced
    obtain ⟨lrq, outcomes, completions⟩ := State.commits_lists stays
    obtain ⟨pools, slots⟩ := (s.offOpenList rest).commits_tables ⟨k, .join code⟩ ack
    obtain ⟨freezes, donates, cursor, -⟩ := State.commits_follow stays
    have freeze : (State.commitMember ⟨k, .join code⟩ false ack
        (s.offOpenList rest)).openWindow.choose.freeze = true := by
      rw [State.freeze, bus, commit]
      simp [Standing.joining]
    refine ⟨_, exec_checkWindowClose_commits window openList other there, ?_, ?_, ?_, freeze,
      fun thaw => freezes ?_, fun thaw idle donor => ⟨donates ?_, (cursor donor (.inl idle)).trans ?_⟩,
      control, pools, slots, lrq, completions, outcomes⟩
    · rw [bus, commit]; rfl
    · rw [bus, commit]
      exact getElem_put_same ..
    · rw [bus, commit]; rfl
    · rw [freeze]
      exact ne_of_eq_of_ne thaw Bool.false_ne_true
    · rw [donor]
      exact ne_of_eq_of_ne idle Bool.false_ne_true
    · have none : s.bus.syncList = [] := by simpa [State.freeze] using thaw
      rw [bus, commit]
      show Cursor.headFor (Standing.joining k _ ⟨_, s.bus.syncList⟩).list.head? = _
      rw [none]
      rfl
  -- A LEAVE or a SNAP-END at an ACTIVE member (R105, R120).
  · intro gone
    have synced : (s.offOpenList rest).control.inSyncing = false := by
      simp [State.offOpenList, Controller.inSyncing, station]
    obtain ⟨kind, roster, list⟩ :
        r.body.kind ≠ .join ∧ (∀ k : StationNo,
          (Standing.twoSteps gone (gone.contains r.sender) r ⟨s.bus.roster, s.bus.syncList⟩).roster[k] =
            if k ∈ gone then .absent
            else if k = left then (if r.body = .leave then .absent else .active) else s.bus.roster[k]) ∧
        (Standing.twoSteps gone (gone.contains r.sender) r ⟨s.bus.roster, s.bus.syncList⟩).list =
          s.bus.syncList.filter (fun k => !gone.contains k && k != left) :=
      Standing.twoSteps_departs nodup departs
    have carried : carriedHead (s.offOpenList rest) r = none := carriedHead_none _ _ fun head => by
      rcases departs with ⟨body, -⟩ | ⟨count, body, -⟩ <;> rw [body] at head <;> cases head
    have commit : commitOf (s.offOpenList rest) r ack = _ :=
      (commitOf_held (by simp [Controller.awaiting, synced]) carried).trans
        (commitOver_active (k := s.me) kind (by
          refine (roster s.me).trans ?_
          rw [if_neg (me_not_mem_dropSet _ _ _), if_neg (Ne.symm notMe), active]))
    have stays : exitAt (s.offOpenList rest) false (commitOf (s.offOpenList rest) r ack) = none :=
      exitAt_synced synced
    obtain ⟨bus, control⟩ := State.commits_synced (r := r) (ack := ack) synced
    obtain ⟨lrq, outcomes, completions⟩ := State.commits_lists stays
    obtain ⟨pools, slots⟩ := (s.offOpenList rest).commits_tables r ack
    refine ⟨_, exec_checkWindowClose_commits window openList other there, ?_, ?_, ?_, ?_,
      (State.commits_follow stays).of_off, control, ?_, pools, slots, lrq, completions, outcomes⟩
    · rw [bus, commit]; rfl
    · rw [bus, commit]; exact roster
    · rw [bus, commit]; exact list
    · rw [bus, commit]; rfl
    · rw [bus]; rfl
  -- The last ACTIVE station goes (R106).
  · obtain ⟨leaves, next⟩ := exitAt_lastDonor (s := s.offOpenList rest) loading syncing onList thins
      notMe donors
    refine ⟨_, (exec_checkWindowClose_commits window openList other there).trans
      (congrArg _ (State.commits_leaves leaves)), ?_⟩
    rw [State.openWindow_control, State.openWindow_host, State.openWindow_engine,
      State.openWindow_request, State.openWindow_bus_eq, State.enterOutside_control,
      State.enterOutside_bus, State.enterOutside_engine,
      State.enterOutside_flag _ _ .outside _ (by decide)]
    obtain ⟨number, flag, pools, slots, lrq⟩ := (s.offOpenList rest).lastNumbered_frame r ack
    refine ⟨rfl, rfl, rfl, by simp, ?_, ?_, Roster.allAbsent_getElem,
      rfl, rfl, rfl, rfl, pools, slots, by simp, by simp, ?_, fun own present chosen => ?_⟩
    · exact (State.enterOutside_flag_other _ _ (by decide) (by decide) (by decide)).trans
        (flag _ (by decide))
    · exact number.trans next
    · rw [State.enterOutside_host_lastCmd, lrq]; rfl
    · rw [State.enterOutside_own]
      exact State.lastNumbered_chosen present chosen
  -- An AWAITING member numbers the record and keeps no standing of its own (R130).
  · have carried : carriedHead (s.offOpenList rest) r = none := carriedHead_elsewhere elsewhere
    have commit : commitOf (s.offOpenList rest) r ack = ⟨s.bus.commit + 1#32, [], false,
        ⟨s.bus.roster, s.bus.syncList⟩, ⟨s.bus.roster, s.bus.syncList⟩⟩ :=
      commitOf_awaiting awaiting carried absent
    have stays : exitAt (s.offOpenList rest) false (commitOf (s.offOpenList rest) r ack) = none := by
      rw [commit]
      exact exitAt_donor (by simp [Standing.noDonor, noList])
    obtain ⟨bus, control⟩ := State.commits_frame stays
    obtain ⟨lrq, -, completions⟩ := State.commits_lists stays
    obtain ⟨pools, slots⟩ := (s.offOpenList rest).commits_tables r ack
    obtain ⟨bus_, control_, -, flag⟩ := (s.offOpenList rest).recorded_frame r ack
    have numbered := State.numbered_elsewhere (s := s.offOpenList rest) (ack := ack) elsewhere
    have thaw : ((s.offOpenList rest).recorded r ack).freeze = false := by
      rw [State.freeze, bus_, commit, noList]; rfl
    have still : (s.offOpenList rest).freeze = false := by
      simp [State.freeze, State.offOpenList, noList]
    obtain ⟨stale, current⟩ := State.commits_currency stays
    rw [numbered] at bus control
    refine ⟨_, exec_checkWindowClose_commits window openList other there, ?_, ?_, ?_, ?_, ?_, ?_, ?_, ?_,
      ?_, pools, slots, stale, current, lrq, completions⟩
    · rw [bus, bus_, commit]
    · rw [bus, bus_, commit]
    · rw [bus, bus_, commit]; exact noList
    · rw [bus, bus_, commit, Commit.entry]
      simp [State.offOpenList, noList]
    · rw [bus, bus_]
      exact trackerAt_elsewhere (s := s.offOpenList rest) elsewhere _
    · rw [bus, bus_]; rfl
    · rw [control, control_]
      simp [Controller.timerAt, State.offOpenList, Config.syncTimerMs]
    · rw [State.commits_flag stays, numbered, flag _ (by decide), thaw, carried, still,
        beq_false_of_ne (by decide : Event.freeze ≠ .donation)]
      simp [State.offOpenList]
    · rw [State.commits_flag_other stays (by decide) (by decide), numbered, flag _ (by decide)]
      rfl
  -- A SNAP-HEAD for a LEAVING member treated as SYNCING (R114).
  · have inSyncing : (s.offOpenList rest).control.inSyncing = true := by
      simp [State.offOpenList, Controller.inSyncing, leaving, kept]
    have stays_ : r.sender ∉ dropSet s.me roster ack := not_mem_dropSet_of_line sender
    have kind : r.body.kind = .snapHead := by rw [body]; rfl
    have target : r.body.target = some s.me := by rw [body]; rfl
    have commit : commitOf (s.offOpenList rest) r ack = ⟨number, dropSet s.me roster ack, false,
        Standing.drop (dropSet s.me roster ack) ⟨roster, list⟩,
        Standing.drop (dropSet s.me roster ack) ⟨roster, list⟩⟩ :=
      (commitOf_carried (carriedHead_mine (s := s.offOpenList rest) inSyncing body) stays_).trans
        (commitOver_valid (.inr (.inl kind)) active stays_)
    have stays : exitAt (s.offOpenList rest) false (commitOf (s.offOpenList rest) r ack) = none := by
      rw [commit]
      exact exitAt_plain active stays_
    obtain ⟨bus, control⟩ := State.commits_frame stays
    obtain ⟨bus_, -, -, flag⟩ := (s.offOpenList rest).recorded_frame r ack
    have numbered := State.numbered_leaverHead (s := s.offOpenList rest) (ack := ack) leaving kept
      target kind (by rw [commit])
    refine ⟨_, exec_checkWindowClose_commits window openList other there, ?_, ?_, fun k => ?_, ?_, ?_, ?_⟩
    · rw [control, numbered]; rfl
    · rw [bus, numbered, bus_, commit]
    · rw [bus, numbered, bus_, commit]
      exact Standing.drop_roster _ _ k
    · rw [bus, numbered, bus_, commit]; rfl
    · rw [bus, numbered, bus_, commit, trackerAt, if_pos inSyncing]
      exact congrArg Tracker.phase (Tracker.commit_head _ target kind)
    · rw [State.commits_flag_other stays (by decide) (by decide), numbered]
      exact flag _ (by decide)
  -- The SNAP-END for a LEAVING member ends its phase (R114).
  · have inSyncing : (s.offOpenList rest).control.inSyncing = true := by
      simp [State.offOpenList, Controller.inSyncing, leaving, kept]
    have kind : r.body.kind = .snapEnd := by rw [body]; rfl
    have target : r.body.target = some s.me := by rw [body]; rfl
    obtain ⟨others, list, commit⟩ := commitOf_end (s := s.offOpenList rest) (ack := ack)
      (by simp [State.offOpenList, Controller.awaiting, phase]) body head (not_mem_dropSet_of_line sender)
    replace list : s.bus.syncList = s.me :: others := list
    rw [list, List.nodup_cons] at nodup
    have stays : exitAt (s.offOpenList rest) false (commitOf (s.offOpenList rest) r ack) = none := by
      rw [commit]
      exact exitAt_donor (Standing.settle_of_active (k := s.me) (getElem_put_same ..)).1
    obtain ⟨bus, control⟩ := State.commits_frame stays
    obtain ⟨bus_, -, due, flag⟩ := (s.offOpenList rest).recorded_frame r ack
    have numbered := State.numbered_leaverEnd (s := s.offOpenList rest) (ack := ack) leaving kept
      target kind (by rw [commit])
    have frozen : (s.offOpenList rest).freeze = true := by
      simp [State.freeze, State.offOpenList, list]
    refine ⟨_, exec_checkWindowClose_commits window openList other there, ?_, ?_, ?_, ?_, ?_, ?_, ?_, ?_⟩
    · rw [control, numbered]; rfl
    · rw [bus, numbered, bus_, commit]; rfl
    · rw [bus, numbered, bus_]; rfl
    · rw [bus, numbered, bus_, commit]
      exact getElem_put_same ..
    · rw [bus, numbered, bus_, commit]
      exact fun on => nodup.1 (List.mem_filter.mp on).1
    · rw [bus, numbered, bus_, commit, trackerAt, if_pos inSyncing]
      exact congrArg Tracker.phase (Tracker.commit_end _ target kind)
    · rw [State.commits_flag_other stays (by decide) (by decide), numbered]
      exact flag _ (by decide)
    · have left := (State.commits_frame stays).2
      rw [State.choose_control, State.openWindow_control, numbered] at left
      rw [State.openWindow_choose_request, State.choose_leaving_auditDue (by rw [left]; exact leaving),
        State.commitMember_other stays, State.handOn_auditDue frozen, numbered]
      exact due

end Sys2Proof.Machine
end


section
/-!
PROOFS. START, the writes to SITE and the values of CONTROL that name no command (R102, R107, R108).
-/
namespace Sys2Proof.Machine

/-! ### START (R107, R108) -/

section
variable {s : State}

theorem State.startAccepted_iff : s.startAccepted = true ↔
    (s.control.station = .config ∨ s.control.station = .outside) ∧ s.bus.locked = true := by
  simp [State.startAccepted]

/-- The station at an accepted START, before it chooses its JOIN. -/
def State.startJoining (s : State) : State :=
  { s.setLastCmd ⟨.start, true, 0⟩ with
    control := { s.control with station := .joining, leaveHeld := false } }

theorem State.commandStart_of_accepted (accepted : s.startAccepted = true) :
    s.commandStart = s.startJoining.choose := if_pos accepted

theorem State.commandStart_of_ignored (ignored : ¬ s.startAccepted = true) :
    s.commandStart = s.setLastCmd ⟨.start, false, 0⟩ := if_neg ignored

/-- A station whose START is accepted is JOINING, and LASTCMD shows the command. -/
theorem State.commandStart_joining (accepted : s.startAccepted = true) :
    s.commandStart.control = { s.control with station := .joining, leaveHeld := false } ∧
    s.commandStart.host.lastCmd = ⟨.start, true, 0⟩ := by
  rw [State.commandStart_of_accepted accepted, State.choose_control, State.choose_host]
  exact ⟨rfl, rfl⟩

/-- A START that is accepted chooses the JOIN unless an own record is still there (R108). -/
theorem State.commandStart_request (accepted : s.startAccepted = true) :
    (s.request.own = none →
      s.commandStart.request = { s.request with own := some (Own.fresh .join) }) ∧
    (s.request.own ≠ none → s.commandStart.request = s.request) := by
  rw [State.commandStart_of_accepted accepted]
  constructor
  · intro ended
    rw [State.choose_joining s.startJoining rfl ended]
    rfl
  · intro stillOpen
    rw [State.choose_of_own s.startJoining stillOpen]
    rfl

end

theorem State.reach_startAccepted (read : Bool) (a : Addr) (s : State) :
    (s.reach read a).startAccepted = s.startAccepted := by
  simp [State.startAccepted]

/-- Settles O9: START is the write of 01h to CONTROL, and by the state it is accepted or not. -/
theorem startEntersJoiningOrIsIgnored : Obligations.StartEntersJoiningOrIsIgnored := by
  intro s
  have effect : s.write controlAddr 0x01#8 =
      (s.reach false controlAddr).commandStart.moved false controlAddr 0x00#8 := rfl
  refine ⟨s.write controlAddr 0x01#8, rfl, ?_, ?_, ?_, ?_, ?_, ?_, ?_, s.write_afterWriteAt _ _, ?_, ?_⟩
  iterate 7 simp [effect]
  · intro accepts
    rw [← State.startAccepted_iff, ← s.reach_startAccepted false controlAddr] at accepts
    obtain ⟨control, lastCmd⟩ := State.commandStart_joining accepts
    have request := State.commandStart_request accepts
    rw [State.reach_request] at request
    rw [State.reach_control] at control
    exact ⟨control, lastCmd, request⟩
  · intro ignores
    rw [← State.startAccepted_iff, ← s.reach_startAccepted false controlAddr] at ignores
    rw [effect, State.commandStart_of_ignored ignores]
    exact ⟨State.reach_control .., State.reach_request .., rfl⟩

/-! ### SITE and the values that name no command (R102, R107) -/

/-- A byte of a two-byte register is known by its bits. -/
theorem byteOf_eq_of_getLsbD (high : Bool) (x : BitVec 16) (value : Byte)
    (bits : ∀ i < 8, x.getLsbD (if high then i + 8 else i) = value.getLsbD i) :
    byteOf high x = value :=
  BitVec.eq_of_getLsbD_eq fun i small => (byteOf_getLsbD high x i small).trans (bits i small)

theorem byteOf_replaceByte_same (high : Bool) (value : Byte) (x : BitVec 16) :
    byteOf high (replaceByte high value x) = value :=
  byteOf_eq_of_getLsbD _ _ _ fun i small => (replaceByte_getLsbD high value x i small).1

theorem byteOf_replaceByte_other (high : Bool) (value : Byte) (x : BitVec 16) :
    byteOf (!high) (replaceByte high value x) = byteOf (!high) x := by
  refine byteOf_eq_of_getLsbD _ _ _ fun i small => ?_
  have kept := (replaceByte_getLsbD high value x i small).2
  rw [byteOf_getLsbD _ _ _ small]
  cases high <;> exact kept

theorem State.siteByte_config {s : State} (high : Bool) (value : Byte)
    (config : s.control.station = .config) :
    (s.siteByte high value).host.site = replaceByte high value s.host.site := by
  rw [State.siteByte, if_pos config]

theorem State.siteByte_ignored {s : State} (high : Bool) (value : Byte)
    (other : s.control.station ≠ .config) : s.siteByte high value = s := if_neg other

/-- Settles O12: the two writes are the effects of SITE and of CONTROL at their addresses. -/
theorem siteIsWrittenInConfigAndUnknownCommandsIgnored :
    Obligations.SiteIsWrittenInConfigAndUnknownCommandsIgnored := by
  constructor
  · intro high value s
    refine ⟨_, rfl, ?_⟩
    rw [State.write_eq, State.writeEffect_site]
    refine ⟨⟨?_, ?_, ?_, ?_, ?_⟩, ?_, ?_, ?_, ?_, ?_, ?_, rfl, rfl, ⟨_, rfl, rfl⟩, ⟨_, rfl, rfl⟩⟩
    iterate 9 simp
    · intro config
      rw [State.moved_host_site, State.siteByte_config high value (by rwa [State.reach_control]),
        State.reach_host_site]
      exact ⟨byteOf_replaceByte_same .., byteOf_replaceByte_other ..⟩
    · intro other
      rw [State.moved_host_site, State.siteByte_ignored high value (by rwa [State.reach_control]),
        State.reach_host_site]
  · intro value s start leave withdraw reinit
    have effect : s.write controlAddr value =
        ((s.reach false controlAddr).setLastCmd ⟨.other, false, 0⟩).moved false controlAddr 0x00#8 :=
      congrArg (State.moved false controlAddr 0x00#8) (State.command_other value _ start leave withdraw reinit)
    refine ⟨_, rfl, ?_⟩
    have shown := s.write_afterWriteAt controlAddr value
    rw [effect] at shown ⊢
    exact ⟨⟨State.reach_bus .., State.reach_engine .., State.reach_request .., State.reach_control ..,
      State.reach_pending ..⟩, rfl, State.reach_host_site .., State.reach_host_events ..,
      State.reach_host_mask .., State.reach_host_find .., shown⟩

end Sys2Proof.Machine
end


section
/-!
PROOFS. LEAVE and the expiry of the sync timer (R109, R114, R140, R156, R177).
-/
namespace Sys2Proof.Machine

/-! ### The places and the flag of the records that are dropped (R144, R156, R159) -/

/-- The places an own record has reserved: one for an ordinary record (R144). -/
def Own.places (o : Own) : Nat :=
  match o.what with
  | .ordinary _ _ => 1
  | .join | .leave | .snapshot _ => 0

/-- The places the drop of a chosen record gives back (R156). -/
def chosenPlaces : Option Own → Nat
  | some o => if o.cond = .chosen then o.places else 0
  | none => 0

/-- The places the drop of a held record gives back (R156). -/
def heldPlaces : Option Own → Nat
  | some o => o.places
  | none => 0

section
variable {s : State} {own : Own} {q : Request} {entry : Bool} {reason : LeaveReason}

theorem chosenPlaces_ordinary (chosen : own.cond = .chosen) (what : own.what = .ordinary q entry) :
    chosenPlaces (some own) = 1 := by
  simp [chosenPlaces, Own.places, chosen, what]

theorem heldPlaces_ordinary (what : own.what = .ordinary q entry) : heldPlaces (some own) = 1 := by
  simp [heldPlaces, Own.places, what]

theorem heldCancelled_ordinary (what : own.what = .ordinary q entry) :
    heldCancelled (some own) = [q.ended .cancelled] := Own.ended_ordinary _ what

/-- Where no record is chosen there is nothing to cancel and no place to give back. -/
theorem State.nothing_chosen (idle : s.request.own = none ∨ s.ownOnBus ≠ none) :
    chosenCancelled s.request.own = [] ∧ chosenPlaces s.request.own = 0 := by
  rcases idle with ended | onBus
  · rw [ended]; exact ⟨rfl, rfl⟩
  · obtain ⟨own, on⟩ := Option.ne_none_iff_exists'.mp onBus
    obtain ⟨present, cond⟩ := Option.filter_eq_some_iff.mp on
    have cond : own.cond = .onBus := by simpa using cond
    rw [present]
    exact ⟨chosenCancelled_onBus cond, by simp [chosenPlaces, cond]⟩

theorem State.dropChosen_reserved (s : State) :
    s.dropChosen.request.reserved = s.request.reserved - chosenPlaces s.request.own := by
  unfold State.dropChosen
  rcases present : s.request.own with _ | ⟨what, cond, won, f, r, cs⟩
  · rfl
  · cases cond with
    | onBus => rfl
    | chosen => cases what with
      | ordinary q entry => cases won <;> rfl
      | join | leave | snapshot => rfl

theorem State.dropHeld_reserved (s : State) :
    s.dropHeld.request.reserved = s.request.reserved - heldPlaces s.request.held := by
  unfold State.dropHeld
  rcases present : s.request.held with _ | ⟨what, cond, won, f, r, cs⟩
  · rfl
  · cases what <;> rfl

/-- The drop of a chosen record sets COMPLETION exactly where it posts a completion. -/
theorem State.dropChosen_completion (s : State) : s.dropChosen.host.flag .completion =
    (s.host.flag .completion || !(chosenCancelled s.request.own).isEmpty) := by
  unfold State.dropChosen
  rcases present : s.request.own with _ | ⟨what, cond, won, f, r, cs⟩
  · simp [chosenCancelled]
  · cases cond with
    | onBus => simp [chosenCancelled]
    | chosen => cases what with
      | ordinary q entry => cases won <;> simp [chosenCancelled, Own.ended, State.postReserved_flag]
      | join | leave | snapshot => simp [chosenCancelled, Own.ended]

theorem State.dropHeld_completion (s : State) : s.dropHeld.host.flag .completion =
    (s.host.flag .completion || !(heldCancelled s.request.held).isEmpty) := by
  unfold State.dropHeld
  rcases present : s.request.held with _ | ⟨what, cond, won, f, r, cs⟩
  · simp [heldCancelled]
  · cases what <;> simp [heldCancelled, Own.ended, State.postReserved_flag]

/-! ### The entry into LEAVING (R109, R114, R156) -/

/-- The choice of a LEAVE reserves no place. -/
theorem State.choose_leaving_reserved (leaving : s.control.station = .leaving) :
    s.choose.request.reserved = s.request.reserved := by
  rcases own : s.request.own with _ | o
  · rw [State.choose_leaving s leaving own]; rfl
  · rw [State.choose_of_own s (by rw [own]; exact Option.some_ne_none o)]

/-- The entry into LEAVING gives back the places of the records it drops (R144, R156). -/
theorem State.enterLeaving_reserved (reason : LeaveReason) (s : State) :
    (s.enterLeaving reason).request.reserved =
      s.request.reserved - chosenPlaces s.request.own - heldPlaces s.request.held := by
  unfold State.enterLeaving
  extract_lets _ left
  have leaving : left.dropChosen.dropHeld.control.station = .leaving := by simp [left]
  rw [State.choose_leaving_reserved leaving, State.dropHeld_reserved, State.dropChosen_reserved,
    State.dropChosen_request_held]

theorem State.enterLeaving_completion (reason : LeaveReason) (s : State) :
    (s.enterLeaving reason).host.flag .completion = (s.host.flag .completion ||
      !(chosenCancelled s.request.own).isEmpty || !(heldCancelled s.request.held).isEmpty) := by
  unfold State.enterLeaving
  rw [State.choose_flag, State.dropHeld_completion, State.dropChosen_completion,
    State.dropChosen_request_held]

theorem State.enterLeaving_own_leave (off : s.ownOnBus = none) :
    (s.enterLeaving reason).request.own = some (Own.fresh .leave) := by
  rw [State.enterLeaving_own]
  exact congrArg (fun o => some (Option.getD o _)) off

/-- An own record that is open stays the own record (R156). -/
theorem State.enterLeaving_own_open (onBus : s.ownOnBus ≠ none) :
    (s.enterLeaving reason).request.own = s.request.own := by
  obtain ⟨own, on⟩ := Option.ne_none_iff_exists'.mp onBus
  have filtered : s.request.own.filter (fun o => o.cond == .onBus) = some own := on
  rw [State.enterLeaving_own, filtered, (Option.filter_eq_some_iff.mp on).1]
  rfl

/-- Where no record is chosen or held the entry into LEAVING posts nothing. -/
theorem State.enterLeaving_posts_nothing (idle : s.request.own = none ∨ s.ownOnBus ≠ none)
    (free : s.request.held = none) :
    (s.enterLeaving reason).request.completions = s.request.completions ∧
    (s.enterLeaving reason).request.reserved = s.request.reserved := by
  obtain ⟨cancelled, places⟩ := State.nothing_chosen idle
  rw [State.enterLeaving_completions, State.enterLeaving_reserved, cancelled, places, free]
  exact ⟨by simp [heldCancelled], rfl⟩

/-- A chosen record is CANCELLED where it has won before, and gives its place back (R156). -/
theorem State.enterLeaving_drops_chosen (present : s.request.own = some own)
    (chosen : own.cond = .chosen) (what : own.what = .ordinary q entry)
    (free : s.request.held = none) :
    (s.enterLeaving reason).request.reserved = s.request.reserved - 1 ∧
    (s.enterLeaving reason).request.completions =
      s.request.completions ++ (if own.won then [q.ended .cancelled] else []) ∧
    (own.won = true → (s.enterLeaving reason).host.flag .completion = true) := by
  have cancelled := chosenCancelled_ordinary chosen what
  rw [State.enterLeaving_completions, State.enterLeaving_reserved, State.enterLeaving_completion,
    present, free, cancelled, chosenPlaces_ordinary chosen what]
  refine ⟨rfl, by simp [heldCancelled], fun won => ?_⟩
  simp [won]

/-- A held record is CANCELLED and gives its place back (R156). -/
theorem State.enterLeaving_drops_held (held : s.request.held = some own)
    (what : own.what = .ordinary q entry) (idle : s.request.own = none ∨ s.ownOnBus ≠ none) :
    (s.enterLeaving reason).request.reserved = s.request.reserved - 1 ∧
    (s.enterLeaving reason).host.flag .completion = true ∧
    (s.enterLeaving reason).request.completions = s.request.completions ++ [q.ended .cancelled] := by
  obtain ⟨cancelled, places⟩ := State.nothing_chosen idle
  rw [State.enterLeaving_completions, State.enterLeaving_reserved, State.enterLeaving_completion,
    held, cancelled, places, heldCancelled_ordinary what, heldPlaces_ordinary what]
  simp

/-! ### LEAVE by station state (R109) -/

theorem State.commandLeave_member (member : s.control.station = .active ∨ s.control.station = .syncing) :
    s.commandLeave = (s.setLastCmd ⟨.leave, true, 0⟩).enterLeaving .left := by
  rcases member with station | station <;> simp [State.commandLeave, station]

theorem State.commandLeave_held (joining : s.control.station = .joining) (won : s.joinWon = true) :
    s.commandLeave =
      { s.setLastCmd ⟨.leave, true, 0⟩ with control := { s.control with leaveHeld := true } } := by
  simp [State.commandLeave, joining, won]

theorem State.commandLeave_joining (joining : s.control.station = .joining)
    (early : s.joinWon = false) :
    s.commandLeave = s.enterOutside .left (fun n => ⟨.leave, true, n⟩) := by
  simp [State.commandLeave, joining, early]

theorem State.commandLeave_ignored (elsewhere : s.control.station = .config ∨
    s.control.station = .outside ∨ s.control.station = .leaving) :
    s.commandLeave = s.setLastCmd ⟨.leave, false, 0⟩ := by
  rcases elsewhere with station | station | station <;> simp [State.commandLeave, station]

/-! ### The records and the frame at a byte of CONTROL -/

theorem State.reach_ownOnBus (read : Bool) (a : Addr) (s : State) :
    (s.reach read a).ownOnBus = s.ownOnBus := by
  simp [State.ownOnBus]

theorem State.reach_joinWon (read : Bool) (a : Addr) (s : State) :
    (s.reach read a).joinWon = s.joinWon := by
  simp [State.joinWon, State.reach_ownOnBus]

end

/-- The expiry of the sync timer takes a SYNCING station out (R114, R140). -/
theorem execSyncTimerExpiry_leaves {s : State} {n : Nat} (syncing : s.control.station = .syncing)
    (running : s.control.syncTimer = .running n) :
    exec .syncTimerExpiry s = .next (s.enterLeaving .syncTimeout) := by
  simp only [exec, execSyncTimerExpiry, running, syncing, if_true]

/-- A stopped timer does not expire (R140). -/
theorem execSyncTimerExpiry_stopped {s : State} (stopped : s.control.syncTimer = .stopped) :
    exec .syncTimerExpiry s = .next s := by
  simp only [exec, execSyncTimerExpiry, stopped]

/-- Settles O10: LEAVE is the write of 02h to CONTROL, taken by the station state; the expiry of the
sync timer is the same entry into LEAVING with another reason. -/
theorem leaveAndSyncTimeoutTakeTheStationOut :
    Obligations.LeaveAndSyncTimeoutTakeTheStationOut := by
  constructor
  · intro s
    have effect : s.write controlAddr 0x02#8 =
        (s.reach false controlAddr).commandLeave.moved false controlAddr 0x00#8 := rfl
    have bus := s.reach_bus false controlAddr
    have engine := s.reach_engine false controlAddr
    have request := s.reach_request false controlAddr
    have control := s.reach_control false controlAddr
    have onBus := s.reach_ownOnBus false controlAddr
    have won := s.reach_joinWon false controlAddr
    have pending := s.reach_pending false controlAddr
    generalize s.reach false controlAddr = r at effect bus engine request control onBus won pending
    refine ⟨s.write controlAddr 0x02#8, rfl, ?_⟩
    rw [effect, ← bus, ← engine, ← request, ← control, ← onBus, ← won, ← pending]
    refine ⟨State.commandLeave_pending r, fun member => ?_, fun ⟨joining, won⟩ => ?_,
      fun ⟨joining, early⟩ => ?_, fun elsewhere => ?_⟩
    · rw [State.commandLeave_member member]
      exact ⟨State.enterLeaving_control .., State.enterLeaving_host_lastCmd ..,
        State.enterLeaving_bus .., State.enterLeaving_engine .., State.enterLeaving_request_lrq ..,
        State.enterLeaving_request_outcomes .., State.enterLeaving_request_held ..,
        fun off => State.enterLeaving_own_leave off, fun on => State.enterLeaving_own_open on,
        fun free idle => State.enterLeaving_posts_nothing idle free,
        fun _ _ _ present chosen what free =>
          State.enterLeaving_drops_chosen present chosen what free,
        fun _ _ _ held what idle => State.enterLeaving_drops_held held what idle⟩
    · rw [State.commandLeave_held joining won]
      exact ⟨rfl, rfl, rfl, rfl, rfl⟩
    · rw [State.commandLeave_joining joining early]
      have exit := State.enterOutside_control .left (fun n => ⟨.leave, true, n⟩) r
      have flag := State.enterOutside_flag .left (fun n => ⟨.leave, true, n⟩) .outside r (by decide)
      exact ⟨congrArg Controller.station exit, congrArg Controller.exitCause exit,
        flag.trans (by simp), State.enterOutside_request_lrq .., State.enterOutside_own ..,
        State.enterOutside_host_lastCmd ..⟩
    · rw [State.commandLeave_ignored elsewhere]
      exact ⟨rfl, rfl, rfl, rfl, rfl⟩
  · intro s
    refine ⟨fun n syncing running off => ?_, execSyncTimerExpiry_stopped⟩
    have kept : s.control.inSyncing = true := by simp [Controller.inSyncing, syncing]
    refine ⟨_, execSyncTimerExpiry_leaves syncing running, ?_, State.enterLeaving_own_leave off,
      State.enterLeaving_request_lrq .., State.enterLeaving_bus .., State.enterLeaving_engine ..,
      State.enterLeaving_host_lastCmd ..⟩
    rw [State.enterLeaving_control, kept]

end Sys2Proof.Machine
end


section
/-!
PROOFS. The station number (R101): what samples it, what shows it, and that every other command keeps it.
-/
namespace Sys2Proof.Machine

/-! ### The station number under the host port -/

theorem State.abortOwn_station (fault : Bool) (s : State) :
    (s.abortOwn fault).bus.station = s.bus.station := by
  rcases s.abortOwn_bus fault with same | ⟨exit, -⟩
  · rw [same]
  · rw [exit]; rfl

/-- REINIT keeps the number, and LEAVE keeps it at an exit (R109, R110). -/
theorem State.command_station (value : Byte) (s : State) :
    (s.command value).bus.station = s.bus.station := by
  unfold State.command
  split
  · rw [State.commandStart_bus]
  · split
    · unfold State.commandLeave
      split
      case h_3 =>
        split
        · rfl
        · rw [State.enterOutside_bus]; rfl
      case h_1 | h_2 => rw [State.enterLeaving_bus]; rfl
      all_goals rfl
    · split
      · rw [State.commandWithdraw_bus]
      · split <;> rfl

theorem State.writeEffect_station (a : Addr) (value : Byte) (s : State) :
    (s.writeEffect a value).bus.station = s.bus.station := by
  unfold State.writeEffect
  split
  case h_3 => exact s.command_station value
  all_goals simp

theorem State.write_station (a : Addr) (value : Byte) (s : State) :
    (s.write a value).bus.station = s.bus.station := by
  have effect := (s.reach false a).writeEffect_station a value
  rwa [State.reach_bus] at effect

theorem State.spiByte_station (value : Byte) (s : State) :
    (s.spiByte value).bus.station = s.bus.station := by
  unfold State.spiByte
  split
  · split
    · rfl
    · split
      · rw [State.read_bus]
      · exact State.write_station ..
  · rfl

/-! ### The station number under the commands of the share bus -/

theorem State.violated_station (s : State) : s.violated.bus.station = s.bus.station := by
  rw [State.violated_eq]

theorem State.recordStarts_station (winner : StationNo) (own : Bool)
    (started : Option (List Nibble)) (s : State) :
    (s.recordStarts winner own started).bus.station = s.bus.station := by
  unfold State.recordStarts
  extract_lets after
  have starts : after.bus.station = s.bus.station := by
    unfold after
    split <;> rfl
  split
  · rw [State.violated_station, starts]
  · exact starts

theorem State.round_station (req : BitVec 8) (thr : Bool) (started : Option (List Nibble))
    (s : State) : (s.round req thr started).bus.station = s.bus.station := by
  unfold State.round
  split
  · split
    · rfl
    · split
      · rw [State.recordStarts_station, State.beforeWin_win_bus]
      · rw [State.recordStarts_station]
  · rfl

theorem State.strayStart_station (started : List Nibble) (s : State) :
    (s.strayStart started).bus.station = s.bus.station := by
  unfold State.strayStart
  split
  · extract_lets sender turned starts
    split
    · split
      · rw [State.assertMrs_bus_station]
      · rfl
    · split
      · rw [State.violated_station]; rfl
      · rfl
  · rfl

theorem State.endTransfer_station (rest : List Nibble) (mrs : Bool) (s : State) :
    (s.endTransfer rest mrs).bus.station = s.bus.station := by
  unfold State.endTransfer
  split
  · rfl
  · split
    · extract_lets nibbles turn src off fits barred joined
      split
      · rw [State.assertMrs_bus_station]
      · split
        · rw [State.openWindow_bus_station]
        · split
          · rw [State.choose_bus, State.abortOwn_station]
          · rfl
    · rfl

theorem State.closeAs_station (drive : Drive) (o : OpenRecord) (ack : BitVec 8) (flt : Bool)
    (s : State) : (s.closeAs drive o ack flt).bus.station = s.bus.station := by
  unfold State.closeAs
  split
  · split
    · exact s.abortOwn_station true
    · rfl
  · split
    · exact State.selfDrop_bus_station ..
    · split
      · split
        · exact s.abortOwn_station true
        · rfl
      · exact State.commitMember_bus_station ..
  · split
    · rfl
    · split
      · exact s.abortOwn_station true
      · split
        · exact State.commitJoin_bus_station ..
        · rw [State.endOwn_bus]

theorem State.closeWindow_station (ack : BitVec 8) (flt : Bool) (s : State) :
    (s.closeWindow ack flt).bus.station = s.bus.station := by
  rcases s.closeWindow_cases ack flt with same | ⟨drive, o, rest, -, -, bus⟩
  · rw [same]
  · rw [bus, State.openWindow_bus_station, State.closeAs_station]; rfl

theorem State.restartBegin_station (s : State) : s.restartBegin.bus.station = s.bus.station := by
  unfold State.restartBegin
  split
  · rw [State.choose_bus, State.abortOwn_station]
  · rfl

theorem effectOf_lockLoss_station (s : State) :
    (effectOf .lockLoss s).bus.station = s.bus.station := by
  show (State.bus (if s.bus.locked then _ else s)).station = s.bus.station
  split
  · rw [State.endOwn_bus]
    split
    · rw [State.enterOutside_bus]; rfl
    · rfl
  · rfl

/-- Every command but a pin reset and a release of the reset keeps the number (R101). -/
theorem effectOf_station (c : Instr) (s : State) (pin : c ≠ .pinReset)
    (release : ∀ straps, c ≠ .resetRelease straps) :
    (effectOf c s).bus.station = s.bus.station := by
  have same : ∀ {t : State}, t.bus = s.bus → t.bus.station = s.bus.station :=
    congrArg BusUnit.station
  cases c with
  | pinReset => exact absurd rfl pin
  | resetRelease straps => exact absurd rfl (release straps)
  | lockGain =>
    show (State.bus (if s.bus.locked then s else _)).station = s.bus.station
    split <;> rfl
  | lockLoss => exact effectOf_lockLoss_station s
  | quietBus =>
    show (State.bus (if s.bus.locked && !s.bus.inStep then _ else s)).station = s.bus.station
    split <;> rfl
  | start | leave | withdraw | reinit | controlOther | siteWrite | eventsClear | evmaskWrite | viewSel
  | findGo | requestSubmit => exact s.write_station _ _
  | registerWrite event value =>
    cases event with
    | select =>
      show s.select.bus.station = s.bus.station
      unfold State.select; split <;> rfl
    | byte => exact s.spiByte_station value
    | write addr => exact s.write_station addr value
    | read addr => exact same (s.read_bus addr)
  | completionTake => exact same (s.read_bus 0x13#7)
  | noticeTake => exact same (s.read_bus 0x14#7)
  | viewPortRead => exact same (s.read_bus 0x16#7)
  | findPortRead => exact same (s.read_bus 0x1D#7)
  | auditPortRead => exact same (s.read_bus 0x1E#7)
  | eventsRead high => exact same (State.reach_bus true (eventsAddr high) s)
  | commitDigestRead offset => exact same (State.reach_bus true (commitAddr offset) s)
  | spiFrameEnd | priChange | mrsRelease => rfl
  | arbitrationRound req thr started => exact s.round_station req thr started
  | transferEnd rest mrs => exact s.endTransfer_station rest mrs
  | checkWindowClose ack flt => exact s.closeWindow_station ack flt
  | restartEpisodeBegin => exact s.restartBegin_station
  | restartEpisodeEnd =>
    show s.restartEnd.bus.station = s.bus.station
    unfold State.restartEnd; split <;> rfl
  | application =>
    show s.application.bus.station = s.bus.station
    rw [State.application_bus]
  | snapshotBuild =>
    show s.build.bus.station = s.bus.station
    unfold State.build; split <;> [split; skip] <;> rfl
  | viewCopy =>
    show s.copyView.bus.station = s.bus.station
    unfold State.copyView; split <;> [split; skip] <;> rfl
  | findStep =>
    show s.findStep.bus.station = s.bus.station
    unfold State.findStep State.scanSlot
    dsimp only
    repeat' split
    all_goals rfl
  | syncTimerExpiry =>
    unfold effectOf exec execSyncTimerExpiry
    dsimp only
    split
    · split
      · rw [State.enterLeaving_bus]
      · rfl
    · rfl
  | recordStartWithoutRound started => exact s.strayStart_station started
  | ackOrFltOutOfWindow =>
    show s.strayAck.bus.station = s.bus.station
    unfold State.strayAck
    split
    · rw [State.assertMrs_bus_station]
    · rfl

/-- What is written to STATION is ignored: the byte moves the frame and SDO alone (R101, R179). -/
theorem State.write_stationRegister (value : Byte) (s : State) :
    OnlyHost s (s.write 0x05#7 value) ∧ HostRegistersKept s (s.write 0x05#7 value) := by
  have effect : s.write 0x05#7 value = (s.reach false 0x05#7).moved false 0x05#7 0x00#8 := rfl
  rw [effect]
  exact ⟨⟨State.reach_bus .., State.reach_engine .., State.reach_request .., State.reach_control ..,
    State.reach_pending ..⟩, State.reach_host_site .., State.reach_host_events ..,
    State.reach_host_mask .., State.reach_host_lastCmd .., State.reach_host_find ..⟩

/-- Settles O5, by what each command does to the number. -/
theorem stationNumberIsSampledAtReleaseAndHeld :
    Obligations.StationNumberIsSampledAtReleaseAndHeld := by
  refine ⟨fun straps s => ⟨_, rfl, rfl, rfl, ?_⟩, fun c s t step pin release => ?_, fun s => rfl,
    fun value s => ⟨_, rfl, s.write_stationRegister value⟩⟩
  · exact BitVec.ofNat_toNat ..
  · rw [exec_eq_effectOf] at step
    cases step
    exact effectOf_station c s pin release

end Sys2Proof.Machine
end


section
/-!
PROOFS. The record that a SNAPSHOT_BUILD builds in each phase of the cursor (R125, R126), and the choice
of the own record of an ACTIVE station (R147).
-/
namespace Sys2Proof.Machine

/-! ### The record of each phase of the cursor (R126) -/

section
variable {s : State} {target : StationNo}

theorem State.buildFor_head (head : s.request.cursor.phase = .head) :
    s.buildFor target = some (s.request.cursor,
      .snapHead target (s.engine.commit + 1#32) s.bus.roster s.bus.syncList) := by
  simp [State.buildFor, head]

theorem State.buildFor_claim {i : SlotNo} {c : Claim} (claims : s.request.cursor.phase = .claims)
    (next : nextClaim s.engine.slots s.request.cursor.nextSlot = some (i, c)) :
    s.buildFor target = some (s.request.cursor, .snapClaim target i c) := by
  simp [State.buildFor, claims, next]

/-- With no claim left the phase CLAIMS ends, and pool 0 is built at once. -/
theorem State.buildFor_claims_exhausted (claims : s.request.cursor.phase = .claims)
    (exhausted : nextClaim s.engine.slots s.request.cursor.nextSlot = none) :
    s.buildFor target = some ({ s.request.cursor with phase := .pools, nextPool := 0 },
      .snapPool target 0 s.engine.pools[(0 : PoolNo)]) := by
  simp [State.buildFor, claims, exhausted, poolRecord]

theorem State.buildFor_pool {p : PoolNo} (pools : s.request.cursor.phase = .pools)
    (next : s.request.cursor.nextPool = p.val) :
    s.buildFor target = some (s.request.cursor, .snapPool target p s.engine.pools[p]) := by
  simp [State.buildFor, pools, next, poolRecord]

theorem State.buildFor_finish (finish : s.request.cursor.phase = .finish) :
    s.buildFor target = some (s.request.cursor, .snapEnd target s.request.cursor.count) := by
  simp [State.buildFor, finish]

/-- Every phase but IDLE has its record. -/
theorem State.buildFor_exists (busy : s.request.cursor.phase ≠ .idle)
    (inRange : s.request.cursor.phase = .pools → s.request.cursor.nextPool < 8) :
    ∃ cursor body, s.buildFor target = some (cursor, body) := by
  cases phase : s.request.cursor.phase with
  | idle => exact absurd phase busy
  | head => exact ⟨_, _, State.buildFor_head phase⟩
  | claims =>
    cases next : nextClaim s.engine.slots s.request.cursor.nextSlot with
    | none => exact ⟨_, _, State.buildFor_claims_exhausted phase next⟩
    | some found => exact ⟨_, _, State.buildFor_claim phase next⟩
  | pools => exact ⟨_, _, State.buildFor_pool (p := ⟨_, inRange phase⟩) phase rfl⟩
  | finish => exact ⟨_, _, State.buildFor_finish phase⟩

end

/-! ### The build (R125) -/

section
variable {s : State}

theorem State.build_unasked (unasked : s.buildWanted = false) : s.build = s := by
  simp [State.build, unasked]

theorem State.build_asked {target : StationNo} {cursor : Cursor} {body : Body}
    (asked : s.buildWanted = true) (aims : s.request.cursor.target = some target)
    (built : s.buildFor target = some (cursor, body)) :
    s.build = { s with request := { s.request with
      cursor := cursor, own := some (Own.fresh (.snapshot body)) } } := by
  simp [State.build, asked, aims, built]

/-- No build is asked for while the cursor is IDLE (R125). -/
theorem State.phase_of_buildWanted (asked : s.buildWanted = true) :
    s.request.cursor.phase ≠ .idle := by
  simp only [State.buildWanted, Bool.and_eq_true, bne_iff_ne] at asked
  obtain ⟨⟨⟨⟨⟨-, busy⟩, -⟩, -⟩, -⟩, -⟩ := asked
  exact busy

end

/-! ### The choice of an ACTIVE station with no freeze in force (R147) -/

section
variable {s : State}

theorem State.choose_active (active : s.control.station = .active) (freeze : s.freeze = false)
    (own : s.request.own = none) : s.choose = s.chooseOrdinary := by
  simp [State.choose, active, freeze, own]

theorem State.chooseOrdinary_held {h : Own} (held : s.request.held = some h) :
    s.chooseOrdinary = { s with request := { s.request with
      own := some { h with cond := .chosen }, held := none } } := by
  simp [State.chooseOrdinary, held]

theorem State.chooseOrdinary_nothing (held : s.request.held = none)
    (due : s.request.auditDue = false) (lrq : s.request.lrq = []) : s.chooseOrdinary = s := by
  simp [State.chooseOrdinary, held, due, lrq]

theorem State.chooseOrdinary_head {r : Request} {rs : List Request} (held : s.request.held = none)
    (free : 0 < s.request.freePlaces) (due : s.request.auditDue = false)
    (lrq : s.request.lrq = r :: rs) :
    s.chooseOrdinary = { s with request := { s.request with
      own := some (Own.fresh (.ordinary r false)), reserved := s.request.reserved + 1 } } := by
  simp [State.chooseOrdinary, held, free.ne', due, lrq]

end

/-- Settles O49: the build by the record of the cursor's phase; the choice by the station state, then in
the order of R147. -/
theorem buildFollowsTheCursor : Obligations.BuildFollowsTheCursor := by
  refine ⟨fun s => ⟨fun unasked => congrArg Host.Outcome.next (State.build_unasked unasked),
    fun target asked aims inRange => ?_⟩, fun s => ⟨s.choose_of_own, fun own => ⟨?_, ?_, ?_, ?_⟩⟩⟩
  · obtain ⟨cursor, body, built⟩ :=
      State.buildFor_exists (target := target) (State.phase_of_buildWanted asked) inRange
    have only {c : Cursor} {b : Body} (other : s.buildFor target = some (c, b)) :
        cursor = c ∧ body = b := Prod.mk.inj (Option.some.inj (built.symm.trans other))
    exact ⟨_, body, congrArg Host.Outcome.next (State.build_asked asked aims built), rfl, rfl, rfl, rfl,
      rfl, rfl, rfl,
      fun head => only (State.buildFor_head head),
      fun _ _ claims next => only (State.buildFor_claim claims next),
      fun claims exhausted => only (State.buildFor_claims_exhausted claims exhausted),
      fun _ pools next => only (State.buildFor_pool pools next),
      fun finish => only (State.buildFor_finish finish)⟩
  · exact fun joining => s.choose_joining joining own
  · exact fun leaving => s.choose_leaving leaving own
  · rintro (config | outside | syncing | ⟨active, freeze⟩)
    · exact s.choose_of_idle_state (.inl config)
    · exact s.choose_of_idle_state (.inr (.inl outside))
    · exact s.choose_of_idle_state (.inr (.inr syncing))
    · exact State.choose_frozen active freeze
  · intro active freeze
    have ordinary := State.choose_active active freeze own
    refine ⟨fun h held => ordinary.trans (State.chooseOrdinary_held held), fun held => ⟨?_, ?_, ?_⟩⟩
    · rintro (full | ⟨due, lrq⟩)
      · exact State.choose_full active freeze own held full
      · exact ordinary.trans (State.chooseOrdinary_nothing held due lrq)
    · exact fun free due => State.choose_entryAudit s active freeze own held due free.ne'
    · exact fun r rs free due lrq => ordinary.trans (State.chooseOrdinary_head held free due lrq)

end Sys2Proof.Machine
end


section
/-!
PROOFS. The places of the completion queue and the choice of the own record after every step (R144, R146,
R147, R152): the places due, part by part, and what each operation of the request unit does to them.
-/
namespace Sys2Proof.Machine

/-! ### The places due (R144, R146) -/

/-- The places the own record has reserved (R144). -/
def ownPlaces : Option Own → Nat
  | some o => o.places
  | none => 0

/-- Reserved places, completions and records in step: the property of O56, read off the request unit. -/
structure RequestUnit.PlacesInStep (r : RequestUnit) : Prop where
  due : r.reserved = ownPlaces r.own + heldPlaces r.held + r.outcomes.length
  room : r.completions.length + r.reserved ≤ 8
  held : ∀ o, r.held = some o → o.places = 1 ∧ ownPlaces r.own = 0

theorem Own.places_le (o : Own) : o.places ≤ 1 := by
  unfold Own.places
  split <;> decide

theorem Own.places_eq_one_iff (o : Own) : o.places = 1 ↔ ∃ r e, o.what = .ordinary r e := by
  unfold Own.places
  split <;> simp_all

theorem Own.places_ordinary {o : Own} {r : Request} {entry : Bool} (what : o.what = .ordinary r entry) :
    o.places = 1 := o.places_eq_one_iff.mpr ⟨r, entry, what⟩

theorem Own.countAbort_places (fault : Bool) (o : Own) : (o.countAbort fault).places = o.places := by
  cases fault <;> rfl

theorem ownPlaces_eq_zero_iff (own : Option Own) :
    ownPlaces own = 0 ↔ ∀ p, own = some p → ∀ r e, p.what ≠ .ordinary r e := by
  rcases own with _ | o
  · simp [ownPlaces]
  · have one := o.places_eq_one_iff
    have le := o.places_le
    have zero : o.places = 0 ↔ ¬ o.places = 1 := by omega
    simp [ownPlaces, zero, one]

theorem RequestUnit.placesDue_eq (r : RequestUnit) (held : ∀ o, r.held = some o → o.places = 1) :
    r.placesDue = ownPlaces r.own + heldPlaces r.held + r.outcomes.length := by
  unfold RequestUnit.placesDue
  rcases r.own with _ | o <;> rcases h : r.held with _ | p
  · rfl
  · rw [show heldPlaces (some p) = 1 from held p h]; rfl
  · rfl
  · rw [show heldPlaces (some p) = 1 from held p h]; rfl

theorem State.placesInStep_iff (s : State) : s.placesInStep ↔ s.request.PlacesInStep := by
  constructor
  · rintro ⟨due, room, held⟩
    have one : ∀ o, s.request.held = some o → o.places = 1 := fun o h =>
      o.places_eq_one_iff.mpr (held o h).1
    exact ⟨due.trans (s.request.placesDue_eq one), room, fun o h =>
      ⟨one o h, (ownPlaces_eq_zero_iff _).mpr (held o h).2⟩⟩
  · rintro ⟨due, room, held⟩
    exact ⟨due.trans (s.request.placesDue_eq fun o h => (held o h).1).symm, room, fun o h =>
      ⟨o.places_eq_one_iff.mp (held o h).1, (ownPlaces_eq_zero_iff _).mp (held o h).2⟩⟩

/-! ### The single changes of the request unit -/

namespace RequestUnit.PlacesInStep
variable {r u : RequestUnit} {o : Own}

/-- Whatever changes in the LRQ, the cursor and the due AUDIT. -/
theorem congr (h : r.PlacesInStep) (own : u.own = r.own) (held : u.held = r.held)
    (outcomes : u.outcomes = r.outcomes) (completions : u.completions = r.completions)
    (reserved : u.reserved = r.reserved) : u.PlacesInStep := by
  obtain ⟨due, room, apart⟩ := h
  exact ⟨by rwa [own, held, outcomes, reserved], by rwa [completions, reserved],
    by rwa [own, held]⟩

/-- With an ordinary own record there is no held one, and a place is reserved for it. -/
theorem ordinary (h : r.PlacesInStep) (own : r.own = some o) (one : o.places = 1) :
    r.held = none ∧ r.reserved = 1 + r.outcomes.length := by
  have mine : ownPlaces r.own = 1 := by rw [own]; exact one
  have none : r.held = none := Option.eq_none_iff_forall_ne_some.mpr fun p held => by
    have := (h.held p held).2
    omega
  have due := h.due
  rw [mine, none] at due
  exact ⟨none, due⟩

/-- An ordinary own record is over, with its completion in its place (R155). -/
theorem endOwn (h : r.PlacesInStep) (own : r.own = some o) (one : o.places = 1) (c : Completion) :
    ({ r with own := none, reserved := r.reserved - 1, completions := r.completions ++ [c] } :
      RequestUnit).PlacesInStep := by
  obtain ⟨none, due⟩ := h.ordinary own one
  have room := h.room
  refine ⟨?_, ?_, fun p held => by rw [none] at held; cases held⟩
  · simp [ownPlaces, heldPlaces, none, due]
  · simp only [List.length_append, List.length_singleton]
    omega

/-- An ordinary own record is over and gives its place back (R144). -/
theorem releaseOwn (h : r.PlacesInStep) (own : r.own = some o) (one : o.places = 1) :
    ({ r with own := none, reserved := r.reserved - 1 } : RequestUnit).PlacesInStep := by
  obtain ⟨none, due⟩ := h.ordinary own one
  have room := h.room
  refine ⟨?_, by dsimp only; omega, fun p held => by rw [none] at held; cases held⟩
  simp [ownPlaces, heldPlaces, none, due]

/-- The own record becomes another one, or none, that reserves as many places. -/
theorem putOwn (h : r.PlacesInStep) {own : Option Own} (same : ownPlaces own = ownPlaces r.own) :
    ({ r with own := own } : RequestUnit).PlacesInStep :=
  ⟨h.due.trans (by dsimp only; rw [same]), h.room, fun p held =>
    ⟨(h.held p held).1, same.trans (h.held p held).2⟩⟩

/-- An own record with no place is over (R158). -/
theorem discardOwn (h : r.PlacesInStep) (zero : ownPlaces r.own = 0) :
    ({ r with own := none } : RequestUnit).PlacesInStep := h.putOwn zero.symm

/-- A new ordinary record takes a free place, where none is held (R147). -/
theorem newOwn (h : r.PlacesInStep) (own : r.own = none) (held : r.held = none)
    (free : 0 < r.freePlaces) (one : o.places = 1) :
    ({ r with own := some o, reserved := r.reserved + 1 } : RequestUnit).PlacesInStep := by
  have due := h.due
  rw [own, held] at due
  refine ⟨?_, ?_, fun p present => by rw [held] at present; cases present⟩
  · simp only [ownPlaces, heldPlaces, one, held] at due ⊢
    omega
  · simp only [RequestUnit.freePlaces, Config.completionMax] at free
    dsimp only
    omega

/-- The ordinary own record is held (R151, R153). -/
theorem holdOwn (h : r.PlacesInStep) (own : r.own = some o) (one : o.places = 1) {p : Own}
    (same : p.places = 1) : ({ r with own := none, held := some p } : RequestUnit).PlacesInStep := by
  obtain ⟨-, due⟩ := h.ordinary own one
  refine ⟨?_, h.room, fun q held => ?_⟩
  · simp [ownPlaces, heldPlaces, same, due]
  · cases held
    exact ⟨same, rfl⟩

/-- The held record is chosen again (R147). -/
theorem takeHeld (h : r.PlacesInStep) (own : r.own = none) (held : r.held = some o) {p : Own}
    (same : p.places = o.places) :
    ({ r with own := some p, held := none } : RequestUnit).PlacesInStep := by
  have due := h.due
  rw [own, held] at due
  refine ⟨?_, h.room, fun q none => nomatch none⟩
  simp only [ownPlaces, heldPlaces, same] at due ⊢
  omega

/-- The held record is over, with its completion in its place (R156). -/
theorem endHeld (h : r.PlacesInStep) (held : r.held = some o) (c : Completion) :
    ({ r with held := none, reserved := r.reserved - 1, completions := r.completions ++ [c] } :
      RequestUnit).PlacesInStep := by
  obtain ⟨due, room, apart⟩ := h
  obtain ⟨one, zero⟩ := apart o held
  rw [held, zero, heldPlaces, one] at due
  refine ⟨?_, ?_, fun q none => nomatch none⟩
  · simp [zero, heldPlaces, due]
  · simp only [List.length_append, List.length_singleton]
    omega

/-- The head of the outcome list is over, with its completion in its place (R51, R157). -/
theorem endOutcome (h : r.PlacesInStep) {x : OutcomeEntry} {rest : List OutcomeEntry}
    (list : r.outcomes = x :: rest) (c : Completion) :
    ({ r with outcomes := rest, reserved := r.reserved - 1, completions := r.completions ++ [c] } :
      RequestUnit).PlacesInStep := by
  obtain ⟨due, room, apart⟩ := h
  rw [list, List.length_cons] at due
  refine ⟨?_, ?_, apart⟩
  · dsimp only
    omega
  · simp only [List.length_append, List.length_singleton]
    omega

/-- The ordinary own record commits: its place is the outcome list's (R152). -/
theorem commitOwn (h : r.PlacesInStep) (own : r.own = some o) (one : o.places = 1)
    (x : OutcomeEntry) :
    ({ r with own := none, outcomes := r.outcomes ++ [x] } : RequestUnit).PlacesInStep := by
  obtain ⟨none, due⟩ := h.ordinary own one
  refine ⟨?_, h.room, fun p held => by rw [none] at held; cases held⟩
  simp only [ownPlaces, heldPlaces, none, List.length_append, List.length_singleton]
  omega

/-- A completion that reserves no place takes a free one (R142). -/
theorem postFree (h : r.PlacesInStep) (free : 0 < r.freePlaces) (c : Completion) :
    ({ r with completions := r.completions ++ [c] } : RequestUnit).PlacesInStep := by
  refine ⟨h.due, ?_, h.held⟩
  simp only [RequestUnit.freePlaces, Config.completionMax] at free
  simp only [List.length_append, List.length_singleton]
  omega

/-- The head completion is taken (R145). -/
theorem takeHead (h : r.PlacesInStep) :
    ({ r with completions := r.completions.tail } : RequestUnit).PlacesInStep := by
  refine ⟨h.due, le_trans ?_ h.room, h.held⟩
  simp

/-- What O56 says of the two lists. -/
theorem lists (h : r.PlacesInStep) : r.outcomes.length ≤ 8 ∧ r.completions.length ≤ 8 := by
  obtain ⟨due, room, -⟩ := h
  omega

end RequestUnit.PlacesInStep

theorem RequestUnit.reset_placesInStep : RequestUnit.reset.PlacesInStep :=
  ⟨rfl, Nat.zero_le _, fun _ none => nomatch none⟩

/-! ### The operations of the request unit -/

namespace State
variable {s : State} (h : s.request.PlacesInStep)
include h

theorem choose_places : s.choose.request.PlacesInStep := by
  unfold State.choose
  split
  · exact h
  · rename_i none
    rw [Bool.not_eq_true, Option.isSome_eq_false_iff, Option.isNone_iff_eq_none] at none
    have fresh : ∀ o : Own, o.places = 0 → (s.setOwn o).request.PlacesInStep := fun o zero =>
      h.putOwn (own := some o) (by rw [none]; exact zero)
    split
    · exact fresh _ rfl
    · exact fresh _ rfl
    · split
      · exact h
      · unfold State.chooseOrdinary
        split
        · rename_i o held
          exact h.takeHeld none held rfl
        · rename_i held
          split
          · exact h
          · rename_i full
            have free : 0 < s.request.freePlaces := Nat.pos_of_ne_zero full
            split
            · exact (h.newOwn none held free rfl).congr rfl rfl rfl rfl rfl
            · split
              · exact h.newOwn none held free rfl
              · exact h
    all_goals exact h

theorem dropChosen_places : s.dropChosen.request.PlacesInStep := by
  unfold State.dropChosen
  split
  · rename_i o own
    split
    · split
      · rename_i what
        have one := Own.places_ordinary what
        split
        · exact h.endOwn own one _
        · exact h.releaseOwn own one
      all_goals
        rename_i what
        exact h.discardOwn (by rw [own, ownPlaces, Own.places, what])
    · exact h
  · exact h

theorem dropHeld_places : s.dropHeld.request.PlacesInStep := by
  unfold State.dropHeld
  split
  · rename_i o held
    have one := (h.held o held).1
    split
    · exact h.endHeld held _
    all_goals
      rename_i what
      simp [Own.places, what] at one
  · exact h

theorem cancelOutcomes_places : s.cancelOutcomes.request.PlacesInStep := by
  obtain ⟨due, room, apart⟩ := h
  refine ⟨?_, ?_, ?_⟩
  · rw [State.cancelOutcomes_reserved, State.cancelOutcomes_request_own,
      State.cancelOutcomes_request_held, State.cancelOutcomes_request_outcomes, due]
    simp
  · rw [State.cancelOutcomes_reserved, State.cancelOutcomes_completions]
    simp only [List.length_append, List.length_map]
    omega
  · rwa [State.cancelOutcomes_request_own, State.cancelOutcomes_request_held]

theorem enterOutside_places (cause : ExitCause) (last : Nat → LastCmd) :
    (s.enterOutside cause last).request.PlacesInStep := by
  have dropped := dropHeld_places (dropChosen_places (cancelOutcomes_places h))
  unfold State.enterOutside
  rw [State.setEventIf_request]
  exact dropped.congr rfl rfl rfl rfl rfl

theorem enterLeaving_places (reason : LeaveReason) :
    (s.enterLeaving reason).request.PlacesInStep :=
  choose_places (dropHeld_places (dropChosen_places h))

theorem endOwn_places (outcome : Outcome) : (s.endOwn outcome).request.PlacesInStep := by
  unfold State.endOwn
  split
  · rename_i o on
    obtain ⟨own, -⟩ := Option.filter_eq_some_iff.mp on
    split
    · rename_i what
      exact h.endOwn own (Own.places_ordinary what) _
    all_goals
      rename_i what
      exact h.discardOwn (by rw [own, ownPlaces, Own.places, what])
  · exact h

/-- An aborted ordinary record keeps its place until it is over (R153, R154). -/
theorem resendOrdinary_places {o p : Own} {r : Request} (own : s.request.own = some o)
    (one : o.places = 1) (same : p.places = 1) (fault : Bool) :
    (s.resendOrdinary fault p r).request.PlacesInStep := by
  unfold State.resendOrdinary
  split
  · exact h.endOwn own one _
  · split
    · split
      · exact h.holdOwn own one same
      · exact h.putOwn (own := some { p with cond := .chosen })
          (by rw [own]; exact same.trans one.symm)
    · exact h.endOwn own one _

theorem abortOwn_places (fault : Bool) : (s.abortOwn fault).request.PlacesInStep := by
  unfold State.abortOwn
  split
  · rename_i o on
    obtain ⟨own, -⟩ := Option.filter_eq_some_iff.mp on
    have again : (s.setOwn { o.countAbort fault with cond := .chosen }).request.PlacesInStep :=
      h.putOwn (own := some { o.countAbort fault with cond := .chosen })
        (by rw [own]; exact Own.countAbort_places fault o)
    have cleared (zero : o.places = 0) : s.clearOwn.request.PlacesInStep :=
      h.discardOwn (by rw [own]; exact zero)
    dsimp only
    split
    · rename_i what
      have one := Own.places_ordinary what
      split
      · exact resendOrdinary_places h own one ((Own.countAbort_places fault o).trans one) fault
      · exact h.endOwn own one _
    · rename_i what
      have gone := cleared (by rw [Own.places, what])
      split
      · split
        · exact enterOutside_places gone _ _
        · split
          · exact enterOutside_places gone _ _
          · exact again
      · exact gone
    · rename_i what
      have gone := cleared (by rw [Own.places, what])
      split
      · split
        · exact enterOutside_places gone _ _
        · exact again
      · exact gone
    · rename_i what
      exact cleared (by rw [Own.places, what])
  · exact h

/-! ### Commits (R74, R78, R111, R151, R152) -/

theorem arrive_places (e : ApplyEntry) : (s.arrive e).request.PlacesInStep := by
  have yielded : (State.yieldScan { s with bus := { s.bus with
      applyQueue := s.bus.applyQueue ++ [e] } }).request = s.request := State.yieldScan_request _
  unfold State.arrive State.discardBuilt
  split
  · rename_i o own
    rw [yielded] at own
    split
    · rename_i what
      refine RequestUnit.PlacesInStep.discardOwn (by rw [yielded]; exact h) ?_
      rw [yielded, own, ownPlaces, Own.places, what]
    · rw [yielded]; exact h
  · rw [yielded]; exact h

theorem phaseAt_places (r : Record) (number : CommitNo) (isVoid : Bool) :
    (s.phaseAt r number isVoid).request.PlacesInStep := by
  unfold State.phaseAt
  split
  · exact h
  · split
    · exact h
    · split
      · exact h.congr rfl rfl rfl rfl rfl
      · exact h
    · exact h

theorem ownCommitted_places (number : CommitNo) :
    (s.ownCommitted number).request.PlacesInStep := by
  unfold State.ownCommitted
  split
  · rename_i o on
    obtain ⟨own, -⟩ := Option.filter_eq_some_iff.mp on
    have cleared (zero : o.places = 0) : s.clearOwn.request.PlacesInStep :=
      h.discardOwn (by rw [own]; exact zero)
    split
    · rename_i what
      exact h.commitOwn own (Own.places_ordinary what) _
    · rename_i what
      exact (cleared (by rw [Own.places, what])).congr rfl rfl rfl rfl rfl
    all_goals
      rename_i what
      exact cleared (by rw [Own.places, what])
  · exact h

theorem cursorAt_places (r : Record) (was : Bool) (before : List StationNo) :
    (s.cursorAt r was before).request.PlacesInStep := by
  unfold State.cursorAt
  dsimp only
  split
  · split
    · exact h.congr rfl rfl rfl rfl rfl
    · exact h
  · split
    · exact h.congr rfl rfl rfl rfl rfl
    · exact h

theorem freezeBegins_places : s.freezeBegins.request.PlacesInStep := by
  unfold State.freezeBegins
  split
  · rename_i o own
    split
    · rename_i what
      have one := Own.places_ordinary what
      split
      · exact h.holdOwn own one one
      · exact (h.releaseOwn own one).congr rfl rfl rfl rfl rfl
    · exact h
  · exact h

theorem commitMember_places (r : Record) (own : Bool) (ack : BitVec 8) :
    (s.commitMember r own ack).request.PlacesInStep := by
  have told : ∀ (t : State) (number : CommitNo), t.request.PlacesInStep →
      (if own then t.ownCommitted number else t).request.PlacesInStep := fun t number ht => by
    split
    · exact ownCommitted_places ht number
    · exact ht
  unfold State.commitMember
  extract_lets c entry _ numbered ended installs moved phased told_ donating frozen
  split
  · exact enterOutside_places (told _ _ (arrive_places (s := numbered) h entry)) _ _
  · have handed : donating.request.PlacesInStep :=
      cursorAt_places (told _ _ (phaseAt_places (arrive_places (s := moved) h entry) _ _ _)) _ _ _
    have after : frozen.request.PlacesInStep := by
      unfold frozen
      split
      · exact freezeBegins_places handed
      · exact handed
    rwa [State.setEventIf_request, State.setEventIf_request]

/-- The own JOIN commits: it has no place to give back (R111, R158). -/
theorem commitJoin_places (join : (s.ownOnBus.map (·.what)) = some .join) (ack : BitVec 8) :
    (s.commitJoin ack).request.PlacesInStep := by
  obtain ⟨o, on, what⟩ := Option.map_eq_some_iff.mp join
  obtain ⟨own, -⟩ := Option.filter_eq_some_iff.mp on
  have cleared : s.clearOwn.request.PlacesInStep :=
    h.discardOwn (by rw [own, ownPlaces, Own.places, what])
  unfold State.commitJoin
  extract_lets founding arrived _ _ entered
  have here : arrived.request.PlacesInStep := arrive_places cleared _
  have inside : entered.request.PlacesInStep := by
    unfold entered
    split <;> exact here
  split
  · exact enterLeaving_places inside _
  · exact inside

theorem closeAs_places (d : Drive) (o : OpenRecord) (ack : BitVec 8) (flt : Bool) :
    (s.closeAs d o ack flt).request.PlacesInStep := by
  unfold State.closeAs
  split
  · split
    · exact abortOwn_places h _
    · exact h
  · split
    · unfold State.selfDrop
      dsimp only
      split
      · exact endOwn_places (enterOutside_places h _ _) _
      · exact enterOutside_places h _ _
    · split
      · split
        · exact abortOwn_places h _
        · exact h
      · exact commitMember_places h _ _ _
  · split
    · exact h
    · split
      · exact abortOwn_places h _
      · split
        · rename_i joins
          simp only [Bool.and_eq_true, beq_iff_eq] at joins
          exact commitJoin_places h joins.2 ack
        · exact endOwn_places h _

/-! ### Wins, applications and the host port (R51, R66, R142, R145, R150) -/

theorem win_places : s.win.request.PlacesInStep := by
  unfold State.win
  split
  · rename_i o own
    exact (h.putOwn (own := some { o with
      cond := .onBus, won := true, contents := Record.bytes ⟨s.me, s.winBody o.what⟩ })
      (by rw [own]; rfl)).congr rfl rfl rfl rfl rfl
  · exact h

theorem complete_places (e : ApplyEntry) (d : Option Decision) :
    (s.complete e d).request.PlacesInStep := by
  unfold State.complete
  split
  · split
    · rename_i list
      split
      · exact h.endOutcome list _
      · exact h
    · exact h
  · exact h

theorem application_places : s.application.request.PlacesInStep := by
  unfold State.application
  split
  · exact h
  · apply choose_places
    unfold State.applyEntry
    split
    · split <;> exact h
    · split
      · unfold State.applySteps
        dsimp only
        apply complete_places
        rw [State.setEventIf_request, State.setEventIf_request]
        exact h
      · exact h

theorem submit_places (bytes : List Byte) : (s.submit bytes).request.PlacesInStep := by
  unfold State.submit
  split
  · exact h
  · split
    · split
      · rename_i free
        exact h.postFree free _
      · exact h
    · apply choose_places
      exact h.congr rfl rfl rfl rfl rfl

theorem takeCompletion_places : s.takeCompletion.request.PlacesInStep :=
  choose_places (s := { s with
    host := { s.host with compRead := none }
    request := { s.request with completions := s.request.completions.tail } }) h.takeHead

omit h in
/-- A chosen LRQ head is an ordinary record (R148). -/
theorem headChosen_places (head : s.headChosen = true) :
    ∃ o, s.request.own = some o ∧ o.places = 1 := by
  unfold State.headChosen at head
  split at head
  · rename_i o own
    split at head
    · rename_i what
      exact ⟨o, own, Own.places_ordinary what⟩
    all_goals cases head
  · cases head

theorem commandWithdraw_places : s.commandWithdraw.request.PlacesInStep := by
  unfold State.commandWithdraw
  extract_lets freed
  have gone : freed.request.PlacesInStep := by
    unfold freed
    split
    · rename_i head
      obtain ⟨o, own, one⟩ := headChosen_places head
      exact h.releaseOwn own one
    · exact h
  apply choose_places
  exact gone.congr rfl rfl rfl rfl rfl

theorem commandStart_places : s.commandStart.request.PlacesInStep := by
  unfold State.commandStart
  split
  · exact choose_places (s := { s.setLastCmd ⟨.start, true, 0⟩ with
      control := { s.control with station := .joining, leaveHeld := false } }) h
  · exact h

theorem commandLeave_places : s.commandLeave.request.PlacesInStep := by
  unfold State.commandLeave
  split
  · exact enterLeaving_places (s := s.setLastCmd ⟨.leave, true, 0⟩) h _
  · exact enterLeaving_places (s := s.setLastCmd ⟨.leave, true, 0⟩) h _
  · split
    · exact h
    · exact enterOutside_places h _ _
  all_goals exact h

/-- A built snapshot record reserves no place (R125, R144). -/
theorem build_places : s.build.request.PlacesInStep := by
  unfold State.build
  split
  · rename_i wanted
    have none : s.request.own = none := by
      simp only [State.buildWanted, Bool.and_eq_true, Option.isNone_iff_eq_none] at wanted
      obtain ⟨⟨⟨-, none⟩, -⟩, -⟩ := wanted
      exact none
    split
    · rename_i body _
      exact (h.putOwn (own := some (Own.fresh (.snapshot body)))
        (by rw [none]; rfl)).congr rfl rfl rfl rfl rfl
    · exact h
  · exact h

end State
end Sys2Proof.Machine
end


section
/-!
PROOFS. What the commands do to the request unit: most leave it and what the choice reads; the others are
listed once, so that a property which these keep holds after every step (R147).
-/
namespace Sys2Proof.Machine

/-! ### What the choice of the own record reads (R147) -/

/-- The request unit, the station state and the sync list are as they were. -/
structure State.SameRequests (s t : State) : Prop where
  request : t.request = s.request
  station : t.control.station = s.control.station
  list : t.bus.syncList = s.bus.syncList

theorem State.SameRequests.refl (s : State) : s.SameRequests s := ⟨rfl, rfl, rfl⟩

theorem State.openWindow_same (s : State) : s.SameRequests s.openWindow :=
  ⟨s.openWindow_request, by rw [s.openWindow_control], s.openWindow_bus_syncList⟩

/-- A FIND step changes the scan and FIND_DONE alone (R166). -/
theorem State.findStep_same (s : State) : s.SameRequests s.findStep := by
  unfold State.findStep
  split
  · split
    · split
      · unfold State.scanSlot
        extract_lets found commit stepped
        split
        · exact ⟨rfl, rfl, rfl⟩
        · split <;> exact ⟨rfl, rfl, rfl⟩
      · exact ⟨rfl, rfl, rfl⟩
    · exact .refl s
  · exact .refl s

/-- A property of the state that rests on what the choice reads, and that each operation which changes the
request unit, the station state or the sync list keeps. -/
structure RequestInvariant (P : State → Prop) : Prop where
  same : ∀ {s t : State}, P s → s.SameRequests t → P t
  reset : ∀ {t : State}, t.request = RequestUnit.reset → t.control.station = .config → P t
  start : ∀ {s : State}, P s → P s.commandStart
  leave : ∀ {s : State}, P s → P s.commandLeave
  withdraw : ∀ {s : State}, P s → P s.commandWithdraw
  submit : ∀ {s : State} (bytes : List Byte), P s → P (s.submit bytes)
  take : ∀ {s : State}, P s → P s.takeCompletion
  win : ∀ {s : State}, P s → P s.win
  abort : ∀ {s : State} (fault : Bool), P s → P (s.abortOwn fault).choose
  close : ∀ {s : State} (d : Drive) (o : OpenRecord) (ack : BitVec 8) (flt : Bool),
    P s → P ((s.closeAs d o ack flt).openWindow).choose
  lockLoss : ∀ {s : State}, P s → P (s.lockLost.endOwn .cancelled)
  expiry : ∀ {s : State}, P s → P (s.enterLeaving .syncTimeout)
  application : ∀ {s : State}, P s → P s.application
  build : ∀ {s : State}, P s → P s.build

/-! ### The host port (R107 to R110, R141, R145, R179) -/

namespace RequestInvariant
variable {P : State → Prop} (inv : RequestInvariant P) {s : State} (h : P s)
include inv h

theorem requestByte (value : Byte) : P (s.requestByte value) := by
  unfold State.requestByte
  extract_lets bytes
  split
  · exact inv.same h ⟨rfl, rfl, rfl⟩
  · exact inv.submit bytes (inv.same (t := { s with host := { s.host with requestBytes := [] } }) h
      ⟨rfl, rfl, rfl⟩)

theorem command (value : Byte) : P (s.command value) := by
  unfold State.command
  split
  · exact inv.start h
  · split
    · exact inv.leave h
    · split
      · exact inv.withdraw h
      · split
        · exact inv.reset rfl rfl
        · exact inv.same h ⟨rfl, rfl, rfl⟩

theorem writeEffect (a : Addr) (value : Byte) : P (s.writeEffect a value) := by
  unfold State.writeEffect
  split
  case h_3 => exact inv.command h value
  case h_8 => exact inv.requestByte h value
  all_goals exact inv.same h ⟨by simp, by simp, by simp⟩

theorem reach (read : Bool) (a : Addr) : P (s.reach read a) :=
  inv.same h ⟨by simp, by simp, by simp⟩

theorem write (a : Addr) (value : Byte) : P (s.write a value) :=
  inv.same (inv.writeEffect (inv.reach h false a) a value) ⟨rfl, rfl, rfl⟩

theorem readCompletion : P s.readCompletion := by
  unfold State.readCompletion
  extract_lets r p
  have here : P r := inv.reach h _ _
  have taken : P (if p.latch.isSome && decide (9 ≤ p.pointer) then r.takeCompletion
      else { r with host := { r.host with compRead := some ⟨p.latch, p.pointer + 1⟩ } }) := by
    split
    · exact inv.take here
    · exact inv.same here ⟨rfl, rfl, rfl⟩
  exact inv.same taken ⟨rfl, rfl, rfl⟩

/-- Every port but COMP_PORT is read with no change outside the host port and the notices. -/
theorem read (a : Addr) : P (s.read a) := by
  have port : ∀ (a : Addr) (g : HostPort) (e : Engine),
      P { s.reach true a with host := g, engine := e } := fun a g e =>
    inv.same (inv.reach h true a) ⟨rfl, rfl, rfl⟩
  unfold State.read
  split
  · exact port _ _ _
  · exact port _ _ _
  · exact inv.readCompletion h
  · exact port _ _ _
  · exact port _ _ _
  · exact port _ _ _
  · exact port _ _ _
  · split
    · exact port _ _ _
    · exact port _ _ _

theorem spiByte (value : Byte) : P (s.spiByte value) := by
  unfold State.spiByte
  split
  · split
    · exact inv.same h ⟨rfl, rfl, rfl⟩
    · split
      · exact inv.read h _
      · exact inv.write h _ _
  · exact h

/-! ### The share bus (R61 to R83) -/

theorem recordStarts (winner : StationNo) (own : Bool) (started : Option (List Nibble)) :
    P (s.recordStarts winner own started) := by
  refine inv.same h ?_
  unfold State.recordStarts
  extract_lets after
  have here : s.SameRequests after := by
    unfold after
    split
    · exact .refl s
    · exact ⟨rfl, rfl, rfl⟩
  split
  · rw [State.violated_eq]
    exact ⟨here.request, here.station, here.list⟩
  · exact here

theorem round (req : BitVec 8) (thr : Bool) (started : Option (List Nibble)) :
    P (s.round req thr started) := by
  unfold State.round
  split
  · split
    · exact h
    · split
      · exact inv.recordStarts (inv.win (State.beforeWin_keeps P (fun _ => inv.application) s h)) _ _ _
      · exact inv.recordStarts h _ _ _
  · exact h

theorem assertMrs : P s.assertMrs := by
  rw [State.assertMrs_eq]
  exact inv.same h ⟨rfl, rfl, rfl⟩

theorem strayStart (started : List Nibble) : P (s.strayStart started) := by
  have turned : P { s with bus := { s.bus with turn := startStation started s.bus.turn } } :=
    inv.same h ⟨rfl, rfl, rfl⟩
  unfold State.strayStart
  split
  · dsimp only
    split <;> split
    · exact inv.assertMrs turned
    · exact turned
    · rw [State.violated_eq]
      exact inv.same h ⟨rfl, rfl, rfl⟩
    · exact inv.same h ⟨rfl, rfl, rfl⟩
  · exact h

theorem openWindow : P s.openWindow := inv.same h s.openWindow_same

theorem endTransfer (rest : List Nibble) (mrs : Bool) : P (s.endTransfer rest mrs) := by
  unfold State.endTransfer
  split
  · exact h
  · split
    · extract_lets nibbles turn _ off fits barred
      have here : P off := inv.same h ⟨rfl, rfl, rfl⟩
      split
      · exact inv.assertMrs here
      · split
        · exact inv.openWindow (inv.same here ⟨rfl, rfl, rfl⟩)
        · split
          · exact inv.abort true here
          · exact here
    · exact h

theorem closeWindow (ack : BitVec 8) (flt : Bool) : P (s.closeWindow ack flt) := by
  unfold State.closeWindow
  split
  · rename_i drive o rest _ _
    exact inv.close drive o ack flt (inv.same (t := s.offOpenList rest) h ⟨rfl, rfl, rfl⟩)
  · exact h

theorem restartBegin : P s.restartBegin := by
  unfold State.restartBegin
  split
  · exact inv.abort false (inv.same (t := s.episodeCleared) h ⟨rfl, rfl, rfl⟩)
  · exact h

theorem syncTimerExpiry : P (effectOf .syncTimerExpiry s) := by
  unfold effectOf exec execSyncTimerExpiry
  dsimp only
  split
  · split
    · exact inv.expiry h
    · exact h
  · exact h

/-! ### Every command and every step -/

theorem effectOf (c : Instr) : P (effectOf c s) := by
  cases c with
  | pinReset => exact inv.reset rfl rfl
  | resetRelease straps => exact inv.same h ⟨rfl, rfl, rfl⟩
  | lockGain =>
    show P (if s.bus.locked then s else _)
    split
    · exact h
    · exact inv.same h ⟨rfl, rfl, rfl⟩
  | lockLoss =>
    show P (if s.bus.locked then _ else s)
    split
    · exact inv.lockLoss h
    · exact h
  | quietBus =>
    show P (if s.bus.locked && !s.bus.inStep then _ else s)
    split
    · exact inv.same h ⟨rfl, rfl, rfl⟩
    · exact h
  | start => exact inv.write h _ _
  | leave => exact inv.write h _ _
  | withdraw => exact inv.write h _ _
  | reinit => exact inv.write h _ _
  | controlOther value => exact inv.write h _ _
  | siteWrite high value => exact inv.write h _ _
  | eventsClear high value => exact inv.write h _ _
  | evmaskWrite high value => exact inv.write h _ _
  | viewSel value => exact inv.write h _ _
  | findGo value => exact inv.write h _ _
  | requestSubmit value => exact inv.write h _ _
  | registerWrite event value =>
    cases event with
    | select =>
      show P s.select
      unfold State.select
      split
      · exact h
      · exact inv.same h ⟨rfl, rfl, rfl⟩
    | byte => exact inv.spiByte h value
    | write addr => exact inv.write h _ _
    | read addr => exact inv.read h _
  | completionTake => exact inv.readCompletion h
  | noticeTake => exact inv.read h 0x14#7
  | viewPortRead => exact inv.read h 0x16#7
  | findPortRead => exact inv.read h 0x1D#7
  | auditPortRead => exact inv.read h 0x1E#7
  | eventsRead high => cases high; exacts [inv.read h 0x0C#7, inv.read h 0x0D#7]
  | commitDigestRead offset =>
    exact inv.same (inv.reach h true (commitAddr offset)) ⟨rfl, rfl, rfl⟩
  | spiFrameEnd => exact inv.same h ⟨rfl, rfl, rfl⟩
  | arbitrationRound req thr started => exact inv.round h _ _ _
  | priChange asserted => exact inv.same h ⟨rfl, rfl, rfl⟩
  | transferEnd rest mrs => exact inv.endTransfer h _ _
  | checkWindowClose ack flt => exact inv.closeWindow h _ _
  | mrsRelease => exact inv.same h ⟨rfl, rfl, rfl⟩
  | restartEpisodeBegin => exact inv.restartBegin h
  | restartEpisodeEnd =>
    show P s.restartEnd
    unfold State.restartEnd
    split
    · exact inv.same h ⟨rfl, rfl, rfl⟩
    · exact h
  | application => exact inv.application h
  | snapshotBuild => exact inv.build h
  | viewCopy =>
    show P s.copyView
    unfold State.copyView
    split
    · split
      · exact inv.same h ⟨rfl, rfl, rfl⟩
      · exact h
    · exact h
  | findStep => exact inv.same h s.findStep_same
  | syncTimerExpiry => exact inv.syncTimerExpiry h
  | recordStartWithoutRound started => exact inv.strayStart h _
  | ackOrFltOutOfWindow =>
    show P s.strayAck
    unfold State.strayAck
    split
    · exact inv.assertMrs h
    · exact h

theorem step {t : State} (run : step s = .next t) : P t := by
  rcases step_cases run with rfl | ⟨c, rest, -, rfl⟩
  · exact h
  · exact inv.effectOf (inv.same (t := { s with pending := rest }) h ⟨rfl, rfl, rfl⟩) c

end RequestInvariant

/-! ### Places in step -/

theorem State.lockLost_places {s : State} (h : s.request.PlacesInStep) :
    s.lockLost.request.PlacesInStep := by
  unfold State.lockLost
  extract_lets off
  split
  · exact State.enterOutside_places (s := off) h _ _
  · exact h

theorem placesInStep_invariant : RequestInvariant fun s => s.request.PlacesInStep where
  same h same := by rwa [same.request]
  reset request _ := by rw [request]; exact RequestUnit.reset_placesInStep
  start := State.commandStart_places
  leave := State.commandLeave_places
  withdraw := State.commandWithdraw_places
  submit bytes h := State.submit_places h bytes
  take := State.takeCompletion_places
  win := State.win_places
  abort fault h := State.choose_places (State.abortOwn_places h fault)
  close d o ack flt h := by
    apply State.choose_places
    rw [State.openWindow_request]
    exact State.closeAs_places h d o ack flt
  lockLoss h := State.endOwn_places (State.lockLost_places h) _
  expiry h := State.enterLeaving_places h _
  application := State.application_places
  build := State.build_places

/-! ### Nothing left to choose (R147) -/

/-- With no own record, no candidate's conditions hold. -/
def State.Chosen (s : State) : Prop :=
  s.request.own = none → s.control.station ≠ .joining ∧ s.control.station ≠ .leaving ∧
    (s.control.station = .active → s.freeze = false → s.request.held = none ∧
      (s.request.freePlaces = 0 ∨ s.request.auditDue = false ∧ s.request.lrq = []))

theorem State.Chosen.of_own {s : State} (own : s.request.own ≠ none) : s.Chosen :=
  fun none => absurd none own

theorem State.Chosen.of_idle {s : State} (idle : s.control.station = .config ∨
    s.control.station = .outside ∨ s.control.station = .syncing) : s.Chosen := fun _ => by
  rcases idle with h | h | h <;> simp [h]

theorem State.Chosen.of_active {s : State} (active : s.control.station = .active)
    (waits : s.freeze = false → s.request.held = none ∧
      (s.request.freePlaces = 0 ∨ s.request.auditDue = false ∧ s.request.lrq = [])) : s.Chosen :=
  fun _ => by
    rw [active]
    exact ⟨nofun, nofun, fun _ => waits⟩

/-- A choice leaves nothing to choose. -/
theorem State.choose_chosen (s : State) : s.choose.Chosen := by
  by_cases own : s.request.own = none
  · rcases station : s.control.station
    case joining => exact .of_own (by rw [s.choose_joining station own]; exact Option.some_ne_none _)
    case leaving => exact .of_own (by rw [s.choose_leaving station own]; exact Option.some_ne_none _)
    case active =>
      rcases freeze : s.freeze with _ | _
      · rcases held : s.request.held with _ | o
        · rcases Nat.eq_zero_or_pos s.request.freePlaces with full | free
          · rw [State.choose_full station freeze own held full]
            exact .of_active station fun _ => ⟨held, .inl full⟩
          · rcases due : s.request.auditDue with _ | _
            · rw [State.choose_active station freeze own]
              rcases lrq : s.request.lrq with _ | ⟨r, rs⟩
              · rw [State.chooseOrdinary_nothing held due lrq]
                exact .of_active station fun _ => ⟨held, .inr ⟨due, lrq⟩⟩
              · rw [State.chooseOrdinary_head held free due lrq]
                exact .of_own (Option.some_ne_none _)
            · rw [State.choose_entryAudit s station freeze own held due free.ne']
              exact .of_own (Option.some_ne_none _)
        · rw [State.choose_active station freeze own, State.chooseOrdinary_held held]
          exact .of_own (Option.some_ne_none _)
      · rw [State.choose_frozen station freeze]
        exact .of_active station fun thaw => nomatch freeze.symm.trans thaw
    all_goals exact .of_idle (by simp [station])
  · rw [s.choose_of_own own]
    exact .of_own own

theorem State.choose_eq_self_iff (s : State) : s.choose = s ↔ s.Chosen := by
  refine ⟨fun same => same ▸ s.choose_chosen, fun chosen => ?_⟩
  by_cases own : s.request.own = none
  · obtain ⟨joining, leaving, active⟩ := chosen own
    rcases station : s.control.station
    case joining => exact absurd station joining
    case leaving => exact absurd station leaving
    case active =>
      rcases freeze : s.freeze with _ | _
      · obtain ⟨held, full | ⟨due, lrq⟩⟩ := active station freeze
        · exact State.choose_full station freeze own held full
        · rw [State.choose_active station freeze own, State.chooseOrdinary_nothing held due lrq]
      · exact State.choose_frozen station freeze
    all_goals exact s.choose_of_idle_state (by simp [station])
  · exact s.choose_of_own own

namespace State.Chosen
variable {s t : State}

theorem congr (h : s.Chosen) (same : s.SameRequests t) : t.Chosen := by
  have freeze : t.freeze = s.freeze := by rw [State.freeze, same.list, State.freeze]
  unfold State.Chosen
  rwa [same.request, same.station, freeze]

/-- A completion posted frees no place. -/
theorem post (h : s.Chosen) (c : Completion) : (s.post c).Chosen := fun none => by
  obtain ⟨joining, leaving, active⟩ := h none
  refine ⟨joining, leaving, fun station freeze => ?_⟩
  obtain ⟨held, full | nothing⟩ := active station freeze
  · refine ⟨held, .inl ?_⟩
    have more : (s.post c).request.completions.length = s.request.completions.length + 1 := by simp
    simp only [RequestUnit.freePlaces, State.post_request_reserved, more] at full ⊢
    omega
  · exact ⟨held, .inr nothing⟩

theorem submit (h : s.Chosen) (bytes : List Byte) : (s.submit bytes).Chosen := by
  unfold State.submit
  split
  · exact h.congr ⟨rfl, rfl, rfl⟩
  · split
    · split
      · exact h.post _
      · exact h.congr ⟨rfl, rfl, rfl⟩
    · exact State.choose_chosen _

theorem commandStart (h : s.Chosen) : s.commandStart.Chosen := by
  unfold State.commandStart
  split
  · exact State.choose_chosen _
  · exact h.congr ⟨rfl, rfl, rfl⟩

/-- A LEAVE chooses the next own record, waits beside the JOIN on the bus, or leaves none to choose. -/
theorem commandLeave (h : s.Chosen) : s.commandLeave.Chosen := by
  unfold State.commandLeave
  split
  · exact State.choose_chosen _
  · exact State.choose_chosen _
  · split
    · rename_i won
      refine .of_own fun absent => ?_
      have off : s.ownOnBus = none := State.ownOnBus_none absent
      simp [State.joinWon, off] at won
    · exact .of_idle (.inr (.inl (by rw [State.enterOutside_control]; rfl)))
  all_goals exact h.congr ⟨rfl, rfl, rfl⟩

theorem win (h : s.Chosen) : s.win.Chosen := by
  unfold State.win
  split
  · exact .of_own (Option.some_ne_none _)
  · exact h

/-- A station that has lost lock is in CONFIG or OUTSIDE (R58, R116). -/
theorem lockLoss (s : State) (outcome : Outcome) : (s.lockLost.endOwn outcome).Chosen := by
  have station : s.lockLost.control.station = .config ∨ s.lockLost.control.station = .outside := by
    unfold State.lockLost
    dsimp only
    split
    · exact .inr (by rw [State.enterOutside_control]; rfl)
    · rename_i stays
      show s.control.station = .config ∨ s.control.station = .outside
      rcases station : s.control.station <;> simp [Controller.member, station] at stays ⊢
  refine .of_idle ?_
  rw [State.endOwn_control]
  exact station.imp_right .inl

theorem application (h : s.Chosen) : s.application.Chosen := by
  unfold State.application
  split
  · exact h
  · exact State.choose_chosen _

theorem build (h : s.Chosen) : s.build.Chosen := by
  unfold State.build
  split
  · split
    · exact .of_own (Option.some_ne_none _)
    · exact h
  · exact h

end State.Chosen

theorem chosen_invariant : RequestInvariant State.Chosen where
  same h same := h.congr same
  reset _ config := .of_idle (.inl config)
  start := State.Chosen.commandStart
  leave := State.Chosen.commandLeave
  withdraw _ := State.choose_chosen _
  submit bytes h := h.submit bytes
  take _ := State.choose_chosen _
  win := State.Chosen.win
  abort _ _ := State.choose_chosen _
  close _ _ _ _ _ := State.choose_chosen _
  lockLoss _ := State.Chosen.lockLoss _ _
  expiry _ := State.choose_chosen _
  application := State.Chosen.application
  build := State.Chosen.build

/-- Settles O56: places in step, and nothing left to choose, are both kept by every operation that changes
what the choice of the own record reads. -/
theorem stepKeepsPlaces : Obligations.StepKeepsPlaces := by
  refine ⟨fun s t places run => ?_, fun s t chosen run => ?_⟩
  · have after := placesInStep_invariant.step (s.placesInStep_iff.mp places) run
    exact ⟨t.placesInStep_iff.mpr after, after.lists⟩
  · exact t.choose_eq_self_iff.mpr (chosen_invariant.step (s.choose_eq_self_iff.mp chosen) run)

end Sys2Proof.Machine
end

section
/-!
PROOFS. The host's requests and completions: WITHDRAW (R150, R177), the eighth byte of a request and its
format errors (R141, R142), and the bytes read at COMP_PORT (R145, R179).
-/
namespace Sys2Proof.Machine

/-! ### WITHDRAW (R150, R177) -/

section
variable {s : State}

/-- The state of a WITHDRAW before the choice that follows: the chosen head's place is given back, the LRQ
is empty and counted in LASTCMD. -/
def State.withdrawn (s : State) : State :=
  let freed := if s.headChosen then s.clearOwn.releasePlace else s
  { freed.setLastCmd ⟨.withdraw, true, s.request.lrq.length⟩ with
    request := { freed.request with lrq := [] } }

theorem State.commandWithdraw_eq (s : State) : s.commandWithdraw = s.withdrawn.choose := rfl

theorem State.withdrawn_control (s : State) : s.withdrawn.control = s.control := by
  unfold State.withdrawn
  dsimp only
  split <;> rfl

theorem State.withdrawn_request_kept (other : s.headChosen = false) :
    s.withdrawn.request = { s.request with lrq := [] } := by
  unfold State.withdrawn
  rw [other]
  rfl

theorem State.withdrawn_request_freed (head : s.headChosen = true) :
    s.withdrawn.request =
      { s.request with lrq := [], own := none, reserved := s.request.reserved - 1 } := by
  unfold State.withdrawn
  rw [head]
  rfl

@[simp] theorem State.commandWithdraw_request_lrq (s : State) :
    s.commandWithdraw.request.lrq = [] := by
  rw [State.commandWithdraw_eq, State.choose_request_lrq]
  rfl

@[simp] theorem State.commandWithdraw_host_lastCmd (s : State) :
    s.commandWithdraw.host.lastCmd = ⟨.withdraw, true, s.request.lrq.length⟩ := by
  rw [State.commandWithdraw_eq, State.choose_host]
  rfl

/-- With the own record in place WITHDRAW takes the LRQ and no more. -/
theorem State.commandWithdraw_beside (own : s.request.own ≠ none) (other : s.headChosen = false) :
    s.commandWithdraw.request = { s.request with lrq := [] } := by
  have kept := State.withdrawn_request_kept other
  rw [State.commandWithdraw_eq, State.choose_of_own _ (by rw [kept]; exact own), kept]

/-- A chosen head is gone, and with an empty LRQ there is none to choose. -/
theorem State.commandWithdraw_head (head : s.headChosen = true)
    (active : s.control.station = .active) (held : s.request.held = none)
    (due : s.request.auditDue = false) : s.commandWithdraw.request =
      { s.request with lrq := [], own := none, reserved := s.request.reserved - 1 } := by
  have freed := State.withdrawn_request_freed head
  have chosen : s.withdrawn.Chosen :=
    .of_active (by rw [State.withdrawn_control, active]) fun _ => by
      rw [freed]
      exact ⟨held, .inr ⟨due, rfl⟩⟩
  rw [State.commandWithdraw_eq, s.withdrawn.choose_eq_self_iff.mpr chosen, freed]

theorem State.reach_headChosen (read : Bool) (a : Addr) (s : State) :
    (s.reach read a).headChosen = s.headChosen := by
  simp [State.headChosen]

end

/-- Settles O11: WITHDRAW is the write of 03h to CONTROL; the choice that follows finds no request. -/
theorem withdrawEmptiesTheQueueOfRequests : Obligations.WithdrawEmptiesTheQueueOfRequests := by
  intro s
  have effect : s.write controlAddr 0x03#8 =
      (s.reach false controlAddr).commandWithdraw.moved false controlAddr 0x00#8 := rfl
  refine ⟨s.write controlAddr 0x03#8, rfl, ?_⟩
  rw [effect]
  refine ⟨by simp, by simp, by simp, by simp, by simp, by simp, by simp, by simp, by simp, by simp, by simp,
    by simp, by simp, fun own other => ?_, fun head active held due => ?_⟩
  · rw [← s.reach_headChosen false controlAddr] at other
    rw [← s.reach_request false controlAddr] at own ⊢
    exact State.commandWithdraw_beside own other
  · rw [← s.reach_headChosen false controlAddr] at head
    rw [← s.reach_control false controlAddr] at active
    rw [← s.reach_request false controlAddr] at held due ⊢
    exact State.commandWithdraw_head head active held due

/-! ### A submitted request (R142) -/

section
variable {s : State} {bytes : List Byte}

theorem State.submit_full (full : 8 ≤ s.request.lrq.length) : s.submit bytes = s.setEvent .overrun :=
  if_pos full

theorem State.submit_format (room : s.request.lrq.length < 8) (wrong : parseRequest bytes = none)
    (free : 0 < s.request.freePlaces) : s.submit bytes =
      s.post ⟨byteAt bytes 1, byteAt bytes 0, .format, none, .none, none⟩ := by
  simp [State.submit, Config.lrqMax, room, wrong, free]

theorem State.submit_format_full (wrong : parseRequest bytes = none)
    (full : s.request.freePlaces = 0) : s.submit bytes = s.setEvent .overrun := by
  simp [State.submit, wrong, full]

/-- The LRQ with a request at its tail. -/
def State.queued (r : Request) (s : State) : State :=
  { s with request := { s.request with lrq := s.request.lrq ++ [r] } }

theorem State.submit_request {r : Request} (room : s.request.lrq.length < 8)
    (right : parseRequest bytes = some r) : s.submit bytes =
      (s.queued r).choose := by
  simp [State.submit, State.queued, Config.lrqMax, room, right]

/-- REQ_PORT with its pointer back at the first byte (R141). -/
def State.requestPortCleared (s : State) : State :=
  { s with host := { s.host with requestBytes := [] } }

theorem State.requestByte_eighth {value : Byte} (seven : s.host.requestBytes.length = 7) :
    s.requestByte value = s.requestPortCleared.submit (s.host.requestBytes ++ [value]) := by
  simp [State.requestByte, State.requestPortCleared, seven]

end

/-- A byte before the end of a list is that of the list without its end. -/
theorem byteAt_append {bytes more : List Byte} {i : Nat} (inside : i < bytes.length) :
    byteAt (bytes ++ more) i = byteAt bytes i :=
  List.getD_append _ _ _ _ inside

/-- Settles O19: the write of the eighth byte is the submission, by the room in the LRQ and the form. -/
theorem eighthByteSubmitsTheRequest : Obligations.EighthByteSubmitsTheRequest := by
  intro value s frame seven
  have effect : s.write 0x12#7 value =
      (s.requestPortCleared.submit (s.host.requestBytes ++ [value])).moved false 0x12#7 0x00#8 := by
    rw [State.write_eq, State.reach_same _ _ _ frame, State.writeEffect_request,
      State.requestByte_eighth seven]
  refine ⟨s.write 0x12#7 value, rfl, ?_⟩
  rw [effect]
  refine ⟨⟨State.submit_bus .., State.submit_engine .., State.submit_control ..,
      State.submit_pending ..⟩,
    State.submit_host_requestBytes .., State.submit_host_site .., State.submit_host_mask ..,
    State.submit_host_lastCmd .., State.submit_host_find .., fun full => ?_,
    fun room wrong => ⟨fun free => ?_, fun full => ?_⟩, fun r room right => ?_⟩
  · rw [State.submit_full (s := s.requestPortCleared) full]
    exact ⟨rfl, rfl⟩
  · rw [State.submit_format (s := s.requestPortCleared) room wrong free, byteAt_append (by omega),
      byteAt_append (by omega)]
    exact ⟨rfl, rfl⟩
  · rw [State.submit_format_full (s := s.requestPortCleared) wrong full]
    exact ⟨rfl, rfl⟩
  · rw [State.submit_request (s := s.requestPortCleared) room right]
    exact ⟨State.choose_request_lrq _, State.choose_request_completions _,
      State.choose_request_outcomes _,
      (congrArg HostPort.events (s.requestPortCleared.queued r).choose_host :),
      fun own => congrArg State.request ((s.requestPortCleared.queued r).choose_of_own own)⟩

/-! ### Format errors (R142) -/

theorem finOfByte_eq_none_iff (n : Nat) (b : Byte) : finOfByte n b = none ↔ n ≤ b.toNat := by
  simp [finOfByte]

theorem word16_eq_zero_iff (u0 u1 : Byte) : word16 u0 u1 = 0#16 ↔ u0 = 0x00#8 ∧ u1 = 0x00#8 := by
  constructor
  · intro zero
    have bytes : [u0, u1] = [0x00#8, 0x00#8] := by rw [← bytes16_word16 u0 u1, zero]; rfl
    simpa using bytes
  · rintro ⟨rfl, rfl⟩
    rfl

theorem parseClassWait_eq_none_iff (cw : Byte) : parseClassWait cw = none ↔
    4 ≤ (cw &&& 0x0F#8).toNat ∨ 2 ≤ (cw >>> 4).toNat := by
  revert cw
  decide

section
variable (item cw u0 u1 tag : Byte)

theorem parseDemand_claim : parseDemand 0x03#8 item cw u0 u1 tag = none ↔
    8 ≤ item.toNat ∨ (u0 = 0x00#8 ∧ u1 = 0x00#8) ∨ 4 ≤ (cw &&& 0x0F#8).toNat ∨
      2 ≤ (cw >>> 4).toNat := by
  rw [← finOfByte_eq_none_iff, ← word16_eq_zero_iff, ← parseClassWait_eq_none_iff]
  have named : kindOfCode 0x03#8 = some .claim := kindOfCode_code .claim
  simp only [parseDemand, named]
  rcases finOfByte 8 item with _ | pool
  · simp
  · rcases parseClassWait cw with _ | ⟨cls, wait⟩ <;> simp

theorem parseDemand_release : parseDemand 0x04#8 item cw u0 u1 tag = none ↔ 64 ≤ item.toNat := by
  rw [← finOfByte_eq_none_iff]
  exact Option.map_eq_none_iff

theorem parseDemand_trim : parseDemand 0x05#8 item cw u0 u1 tag = none ↔
    64 ≤ item.toNat ∨ (u0 = 0x00#8 ∧ u1 = 0x00#8) := by
  rw [← finOfByte_eq_none_iff, ← word16_eq_zero_iff]
  have named : kindOfCode 0x05#8 = some .trim := kindOfCode_code .trim
  by_cases zero : word16 u0 u1 = 0#16 <;> simp [parseDemand, named, zero]

theorem parseDemand_setcap : parseDemand 0x06#8 item cw u0 u1 tag = none ↔ 8 ≤ item.toNat := by
  rw [← finOfByte_eq_none_iff]
  exact Option.map_eq_none_iff

theorem parseDemand_audit : parseDemand 0x07#8 item cw u0 u1 tag = some .audit := rfl

theorem parseDemand_other {kind : Byte} (other : kind.toNat < 3 ∨ 7 < kind.toNat) :
    parseDemand kind item cw u0 u1 tag = none := by
  unfold parseDemand
  rcases named : kindOfCode kind with _ | k
  · rfl
  · rw [kindOfCode_eq_some named] at other
    cases k with
    | claim | release | trim | setcap | audit => simp [Kind.code] at other
    | _ => rfl

end

theorem parseRequest_eq_none_iff (kind ref item cw u0 u1 tag last : Byte) :
    parseRequest [kind, ref, item, cw, u0, u1, tag, last] = none ↔
      last ≠ 0x00#8 ∨ parseDemand kind item cw u0 u1 tag = none := by
  by_cases zero : last = 0x00#8 <;> simp [parseRequest, zero]

/-- The kind byte of a request names CLAIM, RELEASE, TRIM, SETCAP or AUDIT, or is out of range. -/
theorem requestKind_cases (kind : Byte) : (kind.toNat < 3 ∨ 7 < kind.toNat) ∨ kind = 0x03#8 ∨
    kind = 0x04#8 ∨ kind = 0x05#8 ∨ kind = 0x06#8 ∨ kind = 0x07#8 := by
  revert kind
  decide

/-- Settles O20: by the kind byte, then field by field. -/
theorem formatErrorsAreThoseOfTheTable : Obligations.FormatErrorsAreThoseOfTheTable := by
  intro kind ref item cw u0 u1 tag last
  rw [parseRequest_eq_none_iff]
  rcases requestKind_cases kind with other | rfl | rfl | rfl | rfl | rfl
  · simp [parseDemand_other item cw u0 u1 tag other, other]
  · simp [parseDemand_claim]
  · simp [parseDemand_release]
  · simp [parseDemand_trim]
  · simp [parseDemand_setcap]
  · simp [parseDemand_audit]

/-! ### The bytes of COMP_PORT (R145, R179) -/

/-- The copy and pointer in effect at a byte read at COMP_PORT. -/
def State.completionCopy (s : State) : PortRead (Option Completion) :=
  portInEffect 0x13#7 s s.host.compRead s.request.completions.head?

theorem State.reach_compRead (s : State) :
    (s.reach true 0x13#7).host.compRead.getD ⟨s.request.completions.head?, 0⟩ = s.completionCopy := by
  unfold State.reach State.completionCopy portInEffect
  split <;> rfl

/-- A byte read at COMP_PORT: the tenth of a completion takes it, any other moves the pointer. -/
theorem State.readCompletion_eq (s : State) : s.readCompletion =
    State.moved true 0x13#7 (byteAt (completionBytes s.completionCopy.latch) s.completionCopy.pointer)
      (if s.completionCopy.latch.isSome && decide (9 ≤ s.completionCopy.pointer) then
        (s.reach true 0x13#7).takeCompletion
      else { s.reach true 0x13#7 with host := { (s.reach true 0x13#7).host with
        compRead := some ⟨s.completionCopy.latch, s.completionCopy.pointer + 1⟩ } }) := by
  have copy := s.reach_compRead
  rw [← s.reach_request true 0x13#7] at copy
  unfold State.readCompletion
  simp only [copy]

/-- The head completion off its queue, COMP_PORT at its first byte (R145). -/
def State.headTaken (s : State) : State :=
  { s with
    host := { s.host with compRead := none }
    request := { s.request with completions := s.request.completions.tail } }

theorem State.takeCompletion_eq (s : State) : s.takeCompletion = s.headTaken.choose := rfl

@[simp] theorem State.takeCompletion_host_compRead (s : State) :
    s.takeCompletion.host.compRead = none := by
  rw [State.takeCompletion_eq, State.choose_host]; rfl

@[simp] theorem State.takeCompletion_request_completions (s : State) :
    s.takeCompletion.request.completions = s.request.completions.tail := by
  rw [State.takeCompletion_eq, State.choose_request_completions]; rfl

/-- Beside an own record the take frees a place and no more. -/
theorem State.takeCompletion_beside {s : State} (own : s.request.own ≠ none) :
    s.takeCompletion.request = { s.request with completions := s.request.completions.tail } :=
  congrArg State.request (s.headTaken.choose_of_own own)

/-- Every byte of the empty indication is 00h (R145). -/
theorem byteAt_empty (i : Nat) : byteAt (completionBytes none) i = 0x00#8 := by
  simp only [byteAt, completionBytes, List.getD_eq_getElem?_getD, List.getElem?_replicate]
  split <;> rfl

section
variable {s : State}

/-- A byte before the tenth, or of the empty indication. -/
theorem State.readCompletion_copies
    (early : s.completionCopy.pointer < 9 ∨ s.completionCopy.latch = none) :
    s.readCompletion = State.moved true 0x13#7
      (byteAt (completionBytes s.completionCopy.latch) s.completionCopy.pointer)
      { s.reach true 0x13#7 with host := { (s.reach true 0x13#7).host with
        compRead := some ⟨s.completionCopy.latch, s.completionCopy.pointer + 1⟩ } } := by
  rw [State.readCompletion_eq, if_neg]
  rcases early with before | empty
  · simp [before]
  · simp [empty]

/-- The tenth byte of a completion. -/
theorem State.readCompletion_takes (tenth : 9 ≤ s.completionCopy.pointer)
    (copied : s.completionCopy.latch ≠ none) :
    s.readCompletion = State.moved true 0x13#7
      (byteAt (completionBytes s.completionCopy.latch) s.completionCopy.pointer)
      (s.reach true 0x13#7).takeCompletion := by
  rw [State.readCompletion_eq, if_pos (by simp [tenth, Option.isSome_iff_ne_none, copied])]

/-- Nothing but the request unit and the ports changes at a byte of COMP_PORT. -/
theorem State.readCompletion_frame (s : State) :
    OnlyHostAndRequest s s.readCompletion ∧ HostRegistersKept s s.readCompletion := by
  rw [State.readCompletion_eq]
  unfold OnlyHostAndRequest HostRegistersKept
  split <;> simp

end

/-- Settles O21: the byte comes from the copy in effect; the tenth of a completion takes it. -/
theorem completionIsTakenAtTheTenthByte : Obligations.CompletionIsTakenAtTheTenthByte := by
  intro s
  obtain ⟨frame, registers⟩ := s.readCompletion_frame
  refine ⟨s.readCompletion, rfl, frame, registers, ?_⟩
  show (_ = some (byteAt (completionBytes s.completionCopy.latch) s.completionCopy.pointer)) ∧ _ ∧
    (s.completionCopy.pointer < 9 ∨ s.completionCopy.latch = none → _) ∧
    (s.completionCopy.latch = none → _) ∧
    (9 ≤ s.completionCopy.pointer → s.completionCopy.latch ≠ none → _)
  have sdo : s.readCompletion.host.sdo =
      some (byteAt (completionBytes s.completionCopy.latch) s.completionCopy.pointer) := by
    rw [State.readCompletion_eq]; rfl
  refine ⟨sdo, ?_, fun early => ?_, fun empty => ?_, fun tenth copied => ?_⟩
  · rw [State.readCompletion_eq]; rfl
  · rw [State.readCompletion_copies early]
    exact ⟨s.reach_request _ _, rfl⟩
  · rw [sdo, empty, byteAt_empty]
  · rw [State.readCompletion_takes tenth copied, State.moved_request, State.moved_host_compRead,
      ← s.reach_request true 0x13#7]
    exact ⟨by simp, by simp, by simp, by simp, State.takeCompletion_beside⟩

end Sys2Proof.Machine
end

section
/-!
PROOFS. The station's own records at their commit: an ordinary record, the LEAVE, and a donor's SNAP-HEAD,
SNAP-CLAIM and SNAP-POOL (R78, R115, R127, R152).
-/
namespace Sys2Proof.Machine

/-! ### The own record at its commit (R127, R152, R158) -/

section
variable {s : State} {own : Own} {number : CommitNo}

theorem State.ownCommitted_ordinary {q : Request} {entry : Bool} (on : s.ownOnBus = some own)
    (what : own.what = .ordinary q entry) : (s.ownCommitted number).request = { s.request with
      own := none
      outcomes := s.request.outcomes ++ [⟨number, q.demand.code, q.ref, q.demand.slot⟩] } := by
  simp [State.ownCommitted, on, what]

theorem State.ownCommitted_snapshot {b : Body} (on : s.ownOnBus = some own)
    (what : own.what = .snapshot b) : (s.ownCommitted number).request =
      { s.request with own := none, cursor := s.request.cursor.advance b } := by
  simp [State.ownCommitted, on, what]

theorem State.ownCommitted_leave (on : s.ownOnBus = some own) (what : own.what = .leave) :
    s.ownCommitted number = s.clearOwn := by
  simp [State.ownCommitted, on, what]

theorem State.ownOnBus_congr {t : State} (request : t.request = s.request) :
    t.ownOnBus = s.ownOnBus := by
  rw [State.ownOnBus, request, State.ownOnBus]

theorem State.ownSettled_of_onBus (present : s.request.own = some own) (cond : own.cond = .onBus) :
    s.OwnSettled := fun o same => by
  cases present.symm.trans same
  exact cond

end

/-! ### The close of the own record's window (R72, R78) -/

section
variable {s : State} {r : Record} {ack : BitVec 8} {own : Own}

/-- The close of the own record with this station's ACK and no FLT is its commit. -/
theorem exec_checkWindowClose_ownCommits {o : OpenRecord} {rest : List OpenRecord}
    (window : s.bus.window = some (.ack r)) (openList : s.bus.openList = o :: rest)
    (mine : o.own = true) (there : lineOf ack s.me = true) :
    exec (.checkWindowClose ack false) s =
      .next ((s.offOpenList rest).commitMember r true ack).openWindow.choose := by
  have there_ : lineOf ack (s.offOpenList rest).me = true := there
  rw [exec_checkWindowClose window openList]
  simp [State.closeAs, mine, there_]

/-- No own record but the LEAVE takes out a station not treated as SYNCING (R106, R115). -/
theorem exitAt_own {c : Commit} (synced : s.control.inSyncing = false) (on : s.ownOnBus = some own)
    (what : own.what ≠ .leave) : exitAt s true c = none := by
  simp [exitAt, synced, on, what]

theorem exitAt_ownLeave {c : Commit} (leaving : s.control.station = .leaving)
    (on : s.ownOnBus = some own) (what : own.what = .leave) :
    exitAt s true c = some s.control.leaveReason.exitCause := by
  simp [exitAt, leaving, on, what]

/-- The state in which the own record has been numbered and the request unit told of it. -/
def State.ownNumbered (r : Record) (ack : BitVec 8) (s : State) : State :=
  (s.numbered r ack).ownCommitted (commitOf s r ack).number

theorem State.commitMember_own (stays : exitAt s true (commitOf s r ack) = none) :
    s.commitMember r true ack =
      s.handOn r ((carriedHead s r).isSome && !(commitOf s r ack).isVoid) (s.ownNumbered r ack) := by
  unfold State.commitMember
  simp only [stays]
  rfl

theorem State.numbered_request (synced : s.control.inSyncing = false) (settled : s.OwnSettled) :
    (s.numbered r ack).request = s.request := by
  rw [State.numbered_synced synced]
  exact State.arrive_request (s := { s with bus := { s.bus with
    commit := (commitOf s r ack).number, roster := (commitOf s r ack).after.roster
    syncList := (commitOf s r ack).after.list } }) settled _

/-- Bus unit and station controller once the own record is numbered. -/
theorem State.ownNumbered_frame (synced : s.control.inSyncing = false) :
    (s.ownNumbered r ack).bus = { s.bus with
      commit := (commitOf s r ack).number, roster := (commitOf s r ack).after.roster
      syncList := (commitOf s r ack).after.list
      applyQueue := s.bus.applyQueue ++ [(commitOf s r ack).entry r s.bus.syncList] } ∧
    (s.ownNumbered r ack).control = s.control := by
  rw [State.ownNumbered, State.ownCommitted_bus, State.ownCommitted_control,
    State.numbered_synced synced]
  exact ⟨State.arrive_bus _ _, State.arrive_control _ _⟩

/-- Once the own record has committed, only the cursor is left to follow, and the choice. -/
theorem State.commitMember_ownRequest (stays : exitAt s true (commitOf s r ack) = none)
    (ended : (s.ownNumbered r ack).request.own = none) : (s.commitMember r true ack).request =
      { (s.ownNumbered r ack).request with cursor := (s.commitMember r true ack).request.cursor } := by
  rw [State.commitMember_own stays]
  exact State.handOn_request (fun o present => nomatch ended.symm.trans present) s r _

theorem State.commitMember_ownBus (stays : exitAt s true (commitOf s r ack) = none) :
    (s.commitMember r true ack).bus = (s.ownNumbered r ack).bus ∧
    (s.commitMember r true ack).control = (s.ownNumbered r ack).control := by
  obtain ⟨bus, -, control, -⟩ := s.handOn_frame (s.ownNumbered r ack) r
    ((carriedHead s r).isSome && !(commitOf s r ack).isVoid)
  rw [State.commitMember_own stays]
  exact ⟨bus, control⟩

/-! ### An ordinary record (R152) -/

/-- With no record held, no AUDIT due and an empty LRQ nothing is chosen after the commit. -/
theorem State.ownOrdinary_commits {q : Request} {entry : Bool} (active : s.control.station = .active)
    (synced : s.control.inSyncing = false) (present : s.request.own = some own)
    (cond : own.cond = .onBus) (what : own.what = .ordinary q entry)
    (ordinary : r.body.kind.ordinary = true) (lrq : s.request.lrq = []) (held : s.request.held = none)
    (due : s.request.auditDue = false) :
    let t := (s.commitMember r true ack).openWindow.choose
    t.request.own = none ∧ t.request.outcomes = s.request.outcomes ++
      [⟨s.bus.commit + 1#32, q.demand.code, q.ref, q.demand.slot⟩] ∧
    t.bus.commit = s.bus.commit + 1#32 ∧ t.request.reserved = s.request.reserved ∧
    t.request.completions = s.request.completions ∧ t.control = s.control := by
  intro t
  have number : (commitOf s r ack).number = s.bus.commit + 1#32 := by
    have carried : carriedHead s r = none :=
      carriedHead_none s r fun head => by rw [head] at ordinary; cases ordinary
    simp [commitOf, commitNumber, carried]
  have on := State.ownOnBus_some present cond
  have stays : exitAt s true (commitOf s r ack) = none := exitAt_own synced on (by rw [what]; nofun)
  have request := State.numbered_request (r := r) (ack := ack) synced
    (State.ownSettled_of_onBus present cond)
  have told : (s.ownNumbered r ack).request = _ :=
    State.ownCommitted_ordinary ((State.ownOnBus_congr request).trans on) what
  rw [request, number] at told
  have after := State.commitMember_ownRequest stays (by rw [told])
  rw [told] at after
  obtain ⟨bus, control⟩ := State.commitMember_ownBus stays
  obtain ⟨bus_, control_⟩ := State.ownNumbered_frame (r := r) (ack := ack) synced
  rw [bus_] at bus
  rw [control_] at control
  have chosen : (s.commitMember r true ack).Chosen :=
    .of_active (by rw [control, active]) fun _ => by
      rw [after]
      exact ⟨held, .inr ⟨due, lrq⟩⟩
  have final : t.request = (s.commitMember r true ack).request := by
    rw [State.openWindow_choose_request, (State.choose_eq_self_iff _).mpr chosen]
  rw [final, after]
  refine ⟨rfl, rfl, ?_, rfl, rfl, ?_⟩
  · rw [State.choose_bus, State.openWindow_bus_commit, bus, number]
  · rw [State.choose_control, State.openWindow_control, control]

/-! ### The LEAVE (R115) -/

/-- The station that numbers its own LEAVE enters OUTSIDE; with no outcome outstanding and no record held
it posts nothing. -/
theorem State.ownLeave_commits (leaving : s.control.station = .leaving)
    (present : s.request.own = some own) (cond : own.cond = .onBus) (what : own.what = .leave)
    (held : s.request.held = none) (outcomes : s.request.outcomes = []) :
    let t := (s.commitMember r true ack).openWindow.choose
    t.control.station = .outside ∧ t.control.exitCause = s.control.leaveReason.exitCause ∧
    t.request.own = none ∧ t.request.completions = s.request.completions ∧
    t.host.flag .outside = true ∧ t.engine.stale = true ∧ t.bus.applyQueue = [] := by
  intro t
  have on := State.ownOnBus_some present cond
  have request : (s.lastNumbered r ack).request = s.request :=
    State.arrive_request (s := { s with bus := { s.bus with commit := (commitOf s r ack).number } })
      (State.ownSettled_of_onBus present cond) _
  have ended : (s.lastNumbered r ack).ownCommitted (commitOf s r ack).number =
      (s.lastNumbered r ack).clearOwn :=
    State.ownCommitted_leave ((State.ownOnBus_congr request).trans on) what
  have exits : s.commitMember r true ack = (s.lastNumbered r ack).clearOwn.enterOutside
      s.control.leaveReason.exitCause exitLastCmd := by
    rw [← ended]
    unfold State.commitMember
    simp only [exitAt_ownLeave leaving on what]
    rfl
  have final : t = ((s.lastNumbered r ack).clearOwn.enterOutside
      s.control.leaveReason.exitCause exitLastCmd).openWindow := by
    show (s.commitMember r true ack).openWindow.choose = _
    rw [exits, State.choose_of_idle_state]
    exact .inr (.inl (by rw [State.openWindow_control, State.enterOutside_control]; rfl))
  rw [final, State.openWindow_control, State.openWindow_request, State.openWindow_host,
    State.openWindow_engine, State.openWindow_bus_applyQueue, State.enterOutside_control,
    State.enterOutside_own, State.enterOutside_completions, State.enterOutside_engine,
    State.enterOutside_bus, State.enterOutside_flag _ _ .outside _ (by decide)]
  refine ⟨rfl, rfl, rfl, ?_, by simp, rfl, rfl⟩
  show (s.lastNumbered r ack).request.completions ++ _ ++ _ ++ _ = _
  simp [request, held, outcomes, chosenCancelled, heldCancelled]

/-! ### A donor's snapshot record (R127) -/

/-- A standing from which no station is dropped. -/
theorem Standing.drop_nil (x : Standing) : x.drop [] = x :=
  congrArg₂ Standing.mk (tab_getElem x.roster) (List.filter_eq_self.mpr fun _ _ => rfl)

theorem State.isDonor_congr {t : State} (station : t.bus.station = s.bus.station)
    (roster : t.bus.roster = s.bus.roster) (list : t.bus.syncList = s.bus.syncList) :
    t.isDonor = s.isDonor := by
  rw [State.isDonor, State.isDonor, State.me, State.me, station, roster, list]

theorem State.freeze_of_isDonor (donor : s.isDonor = true) : s.freeze = true := by
  rcases list : s.bus.syncList with _ | ⟨k, rest⟩
  · simp [State.isDonor, donorOf, list] at donor
  · simp [State.freeze, list]

/-- A donation that goes on with the same head leaves the cursor. -/
theorem State.cursorAt_stays {n : State} {before : List StationNo} (donor : n.isDonor = true)
    (head : before.head? = n.bus.syncList.head?) (kind : r.body.kind ≠ .join) :
    n.cursorAt r true before = n := by
  simp [State.cursorAt, donor, head, kind]

/-- The donor's own record with no roster effect, no station dropped, moves its cursor on. -/
theorem State.ownSnapshot_commits {b : Body} (active : s.control.station = .active)
    (synced : s.control.inSyncing = false) (donates : s.bus.roster[s.me] = .active)
    (donor : s.isDonor = true) (all : dropSet s.me s.bus.roster ack = [])
    (present : s.request.own = some own) (cond : own.cond = .onBus) (what : own.what = .snapshot b)
    (kind : b.kind = .snapHead ∨ b.kind = .snapClaim ∨ b.kind = .snapPool) :
    let t := (s.commitMember ⟨s.me, b⟩ true ack).openWindow.choose
    t.request.own = none ∧ t.request.cursor = s.request.cursor.advance b := by
  intro t
  have carried : carriedHead s ⟨s.me, b⟩ = none := by
    unfold carriedHead
    split
    · simp [synced]
    · rfl
  have commit : commitOf s ⟨s.me, b⟩ ack = ⟨s.bus.commit + 1#32, [], false,
      ⟨s.bus.roster, s.bus.syncList⟩, ⟨s.bus.roster, s.bus.syncList⟩⟩ := by
    rw [commitOf_held (by simp [Controller.awaiting, synced]) carried,
      commitOver_valid (r := ⟨s.me, b⟩) (x := ⟨s.bus.roster, s.bus.syncList⟩) (.inr kind) donates
        (me_not_mem_dropSet _ _ _)]
    simp only [all, Standing.drop_nil]
  have on := State.ownOnBus_some present cond
  have stays : exitAt s true (commitOf s ⟨s.me, b⟩ ack) = none :=
    exitAt_own synced on (by rw [what]; nofun)
  have request := State.numbered_request (r := ⟨s.me, b⟩) (ack := ack) synced
    (State.ownSettled_of_onBus present cond)
  have told : (s.ownNumbered ⟨s.me, b⟩ ack).request = _ :=
    State.ownCommitted_snapshot ((State.ownOnBus_congr request).trans on) what
  rw [request] at told
  obtain ⟨bus_, control_⟩ := State.ownNumbered_frame (r := ⟨s.me, b⟩) (ack := ack) synced
  rw [commit] at bus_
  have donor_ : (s.ownNumbered ⟨s.me, b⟩ ack).isDonor = true := by
    refine (State.isDonor_congr ?_ ?_ ?_).trans donor <;> rw [bus_]
  have cursor : (s.commitMember ⟨s.me, b⟩ true ack).request.cursor =
      s.request.cursor.advance b := by
    rw [State.commitMember_own stays, State.handOn_cursor, donor,
      State.cursorAt_stays donor_ (by rw [bus_])
        (by rcases kind with kind | kind | kind <;> (show b.kind ≠ _; rw [kind]; nofun)), told]
  have after := State.commitMember_ownRequest stays (by rw [told])
  rw [told] at after
  obtain ⟨bus, control⟩ := State.commitMember_ownBus stays
  have frozen : (s.commitMember ⟨s.me, b⟩ true ack).freeze = true := by
    rw [State.freeze, bus, bus_]
    exact State.freeze_of_isDonor donor
  have final : t.request = (s.commitMember ⟨s.me, b⟩ true ack).request := by
    rw [State.openWindow_choose_request,
      State.choose_frozen (by rw [control, control_]; exact active) frozen]
  rw [final, cursor, after]
  exact ⟨rfl, rfl⟩

end

/-- The cursor past SNAP-POOL: the next pool, or the end of the snapshot after pool 7 (R127). -/
theorem Cursor.advance_pool (c : Cursor) (target : StationNo) (p : PoolNo) (f : Pool) :
    (p.val < 7 → c.advance (.snapPool target p f) = { c with nextPool := p.val + 1 }) ∧
    (p.val = 7 → c.advance (.snapPool target p f) = { c with nextPool := 8, phase := .finish }) :=
  ⟨fun before => if_neg (Nat.ne_of_lt before), fun last => if_pos last⟩

/-- Settles O36: each record by what its commit tells the request unit, with no choice to follow. -/
theorem ownRecordsCommit : Obligations.OwnRecordsCommit := by
  refine ⟨fun ack own q entry r o rest s active phase _ window openList mine present what cond ordinary
      there lrq held due => ?_,
    fun ack own r o rest s leaving window openList mine present what cond there held outcomes => ?_,
    fun ack own b o rest s active phase donates donor all window openList mine present what cond
      there => ?_⟩
  · have synced : (s.offOpenList rest).control.inSyncing = false := by
      simp [State.offOpenList, Controller.inSyncing, active]
    obtain ⟨ended, listed, number, reserved, completions, control⟩ :=
      State.ownOrdinary_commits (s := s.offOpenList rest) (ack := ack) active synced present cond what
        ordinary lrq held due
    exact ⟨_, exec_checkWindowClose_ownCommits window openList mine there, ended, listed, number,
      by simp; rfl, by simp; rfl, reserved, completions, control⟩
  · exact ⟨_, exec_checkWindowClose_ownCommits window openList mine there,
      State.ownLeave_commits (s := s.offOpenList rest) leaving present cond what held outcomes⟩
  · have synced : (s.offOpenList rest).control.inSyncing = false := by
      simp [State.offOpenList, Controller.inSyncing, active]
    have commits := State.ownSnapshot_commits (s := s.offOpenList rest) active synced donates donor all
      present cond what
    refine ⟨_, exec_checkWindowClose_ownCommits window openList mine there, fun target number roster list
      body => ?_, fun target slot c body => ?_, fun target p f body => ?_⟩
    · subst body
      exact commits (.inl rfl)
    · subst body
      exact commits (.inr (.inl rfl))
    · subst body
      obtain ⟨ended, cursor⟩ := commits (.inr (.inr rfl))
      obtain ⟨next, last⟩ := s.request.cursor.advance_pool target p f
      exact ⟨ended, fun before => cursor.trans (next before), fun seven => cursor.trans (last seven)⟩

end Sys2Proof.Machine
end

section
/-!
PROOFS. What the host has the engine do: the selection of a view and its copy (R52, R54, R161, R162), and
the FIND scan from FIND_GO to its end (R52, R53, R164 to R166).
-/
namespace Sys2Proof.Machine

/-! ### VIEW_SEL (R161) -/

/-- VIEW_BUSY of STATE shows that a selection is pending (R161, Table 40). -/
theorem State.stateByte_viewBusy (s : State) : s.stateByte.getLsbD 6 = s.engine.viewPending.isSome := by
  unfold State.stateByte
  rw [BitVec.getLsbD_append, BitVec.getLsbD_append]
  simp

theorem State.selectView_of_item {s : State} {value : Byte} (item : value.toNat ≤ 0x49) :
    s.selectView value = { s with engine := { s.engine with viewPending := some value } } := if_pos item

theorem State.selectView_of_none {s : State} {value : Byte} (beyond : 0x49 < value.toNat) :
    s.selectView value = s := if_neg (Nat.not_le.mpr beyond)

/-! ### FIND_GO (R164, R165) -/

section
variable {s : State}

/-- The scan that FIND_GO starts: at FROM, on a copy of the filter (R165). -/
def FindFilter.newScan (f : FindFilter) : Scan := ⟨f, f.first.toNat, [], none⟩

theorem State.findGo_running (running : s.engine.scan ≠ none) : s.findGo = s := by
  obtain ⟨scan, running⟩ := Option.ne_none_iff_exists'.mp running
  rw [State.findGo, running]

theorem State.findGo_starts (idle : s.engine.scan = none)
    (window : s.host.find.first.toNat ≤ s.host.find.lastSlot) :
    s.findGo = { s with engine := { s.engine with
      scan := some s.host.find.newScan
      findResult := ⟨.running, s.host.find.first, [], s.engine.commit⟩ } } := by
  simp only [State.findGo, idle, window, if_true, FindFilter.newScan]

theorem State.findGo_refused (idle : s.engine.scan = none)
    (empty : s.host.find.lastSlot < s.host.find.first.toNat) :
    s.findGo = State.setEvent .findDone { s with engine := { s.engine with
      findResult := ⟨.emptyWindow, s.host.find.first, [], s.engine.commit⟩ } } := by
  simp only [State.findGo, idle, Nat.not_le.mpr empty, if_false]

end

/-- Settles O17: the writes of VIEW_SEL and FIND_GO, each by the value or the registers it finds. -/
theorem viewSelAndFindGoStartTheirWork : Obligations.ViewSelAndFindGoStartTheirWork := by
  refine ⟨fun value s => ?_, fun value s => ?_⟩
  · refine ⟨s.write 0x15#7 value, rfl, ?_⟩
    have shown := s.write_afterWriteAt 0x15#7 value
    rw [State.write_eq, State.writeEffect_viewSel] at shown ⊢
    refine ⟨by simp, by simp, by simp, by simp, ⟨by simp, by simp, by simp, by simp, by simp⟩, shown,
      fun item => ?_, fun beyond => ?_⟩
    · rw [State.selectView_of_item item, State.stateByte_viewBusy, State.moved_engine]
      exact ⟨by rw [State.reach_engine], rfl⟩
    · rw [State.selectView_of_none beyond, State.moved_engine, State.reach_engine]
  · refine ⟨s.write 0x1C#7 value, rfl, ?_⟩
    have engine : (s.reach false 0x1C#7).engine = s.engine := State.reach_engine ..
    have find : (s.reach false 0x1C#7).host.find = s.host.find := State.reach_host_find ..
    have events : (s.reach false 0x1C#7).host.events = s.host.events := State.reach_host_events ..
    rw [State.write_eq, State.writeEffect_findGo, State.moved_engine, State.moved_host_events]
    refine ⟨by simp, by simp, by simp, by simp, by simp, by simp, by simp, by simp, fun running => ?_,
      fun idle window => ?_, fun idle empty => ?_⟩
    · rw [State.findGo_running (by rwa [engine])]
      exact ⟨engine, events⟩
    · rw [State.findGo_starts (by rwa [engine]) (by rwa [find]), engine, find]
      exact ⟨rfl, events⟩
    · rw [State.findGo_refused (by rwa [engine]) (by rwa [find]), State.setEvent_host_events, engine, find]
      exact ⟨rfl, congrArg (· ||| 0x0200#16) events⟩

/-! ### The view copy (R52, R54, R162) -/

section
variable {s : State} {sel : Byte}

theorem State.viewTurn_iff : s.viewTurn = true ↔ s.bus.applyQueue = [] ∧ s.buildWanted = false := by
  simp [State.viewTurn]

theorem State.viewItem_slot (i : SlotNo) (names : sel.toNat = i.val) :
    s.viewItem sel = slotItem s.engine.slots[i] := by
  have inside : sel.toNat < 64 := names ▸ i.isLt
  rw [State.viewItem, dif_pos inside]
  exact congrArg slotItem (getElem_congr_idx names)

theorem State.viewItem_pool (p : PoolNo) (names : sel.toNat = 64 + p.val) :
    s.viewItem sel = poolItem s.engine.pools[p] := by
  have pool : sel.toNat - 64 = p.val := by omega
  have inside : sel.toNat - 64 < 8 := pool ▸ p.isLt
  rw [State.viewItem, dif_neg (by omega), dif_pos inside]
  exact congrArg poolItem (getElem_congr_idx pool)

theorem State.viewItem_roster :
    s.viewItem 0x48#8 = rosterBytes s.bus.roster ++ bytes32 s.bus.joinCommit := rfl

theorem State.viewItem_syncList :
    s.viewItem 0x49#8 = syncListItem s.bus.syncList (donorOf s.bus.roster s.bus.syncList) := rfl

theorem State.copyView_at_turn (pending : s.engine.viewPending = some sel) (turn : s.viewTurn = true) :
    s.copyView = { s with engine := { s.engine with
      viewPending := none
      viewBuffer := [sel] ++ bytes32 s.engine.commit ++ s.viewItem sel } } := by
  simp [State.copyView, pending, turn]

theorem State.copyView_waits (waits : s.engine.viewPending = none ∨ s.viewTurn = false) :
    s.copyView = s := by
  unfold State.copyView
  split
  · next pending =>
    have notTurn : s.viewTurn = false := waits.resolve_left (by rw [pending]; nofun)
    rw [notTurn]; rfl
  · rfl

end

/-- Settles O50: the copy at its turn, item by item, and no change before it. -/
theorem viewCopyWritesTheBufferWhole : Obligations.ViewCopyWritesTheBufferWhole := by
  refine fun s => ⟨fun sel pending queue build => ?_, fun waits => ?_⟩
  · have copy := State.copyView_at_turn pending (State.viewTurn_iff.mpr ⟨queue, build⟩)
    have item : s.copyView.engine.viewBuffer.drop 5 = s.viewItem sel := by rw [copy]; rfl
    refine ⟨s.copyView, rfl, by rw [copy], by rw [copy]; rfl, fun i names => ?_, fun p names => ?_,
      fun roster => ?_, fun syncList => ?_⟩
    · rw [item, State.viewItem_slot i names]
    · rw [item, State.viewItem_pool p names]
    · rw [item, roster, State.viewItem_roster]
    · rw [item, syncList, State.viewItem_syncList]
  · refine congrArg Host.Outcome.next (State.copyView_waits (waits.imp_right fun blocked => ?_))
    rw [Bool.eq_false_iff, Ne, State.viewTurn_iff]
    rintro ⟨queue, build⟩
    exact blocked.elim (· queue) (by rw [build]; nofun)

/-! ### What a filter matches (R164) -/

theorem filterAdmits_iff (filter : Byte) (n : Nat) :
    filterAdmits filter n = true ↔ 8 ≤ filter.toNat ∨ filter.toNat = n := by
  simp [filterAdmits]

theorem FindFilter.matchesSlot_free (f : FindFilter) : f.matchesSlot none = true ↔
    f.masks.getLsbD 0 = true ∧ 8 ≤ f.holder.toNat ∧ 8 ≤ f.pool.toNat := by
  simp [FindFilter.matchesSlot, and_assoc]

theorem FindFilter.matchesSlot_claim (f : FindFilter) (c : Claim) : f.matchesSlot (some c) = true ↔
    f.masks.getLsbD (if c.state = .held then 1 else 2) = true ∧
    f.masks.getLsbD (4 + c.cls.val) = true ∧
    (8 ≤ f.holder.toNat ∨ f.holder.toNat = c.holder.val) ∧
    (8 ≤ f.pool.toNat ∨ f.pool.toNat = c.pool.val) := by
  rw [← filterAdmits_iff, ← filterAdmits_iff]
  cases state : c.state <;> simp [FindFilter.matchesSlot, state, and_assoc]

/-! ### One step of a scan (R52, R166) -/

/-- The matches of a scan after it has examined slot `i`. -/
def Scan.foundAt (scan : Scan) (i : SlotNo) (slot : Option Claim) : List SlotNo :=
  if scan.filter.matchesSlot slot then scan.found ++ [i] else scan.found

/-- A scan that has examined slot `i` of the tables of `g`. -/
def Scan.stepped (scan : Scan) (i : SlotNo) (g : Engine) : Scan :=
  ⟨scan.filter, i.val + 1, scan.foundAt i g.slots[i], some (scan.commit.getD g.commit)⟩

section
variable {s : State} {scan : Scan} {i : SlotNo}

theorem State.findStep_waits (notTurn : s.findTurn = false) : s.findStep = s := by
  unfold State.findStep
  split
  · rw [notTurn]; rfl
  · rfl

theorem State.findStep_at_turn (running : s.engine.scan = some scan) (next : scan.next = i.val)
    (turn : s.findTurn = true) : s.findStep = s.scanSlot scan i := by
  simp [State.findStep, running, turn, next]

theorem State.scanSlot_complete (last : scan.filter.lastSlot ≤ i.val) : s.scanSlot scan i =
    s.endScan .complete (scan.stepped i s.engine) (scan.commit.getD s.engine.commit) :=
  if_pos last

theorem State.scanSlot_full (before : i.val < scan.filter.lastSlot)
    (eight : 8 ≤ (scan.foundAt i s.engine.slots[i]).length) : s.scanSlot scan i =
    s.endScan .full (scan.stepped i s.engine) (scan.commit.getD s.engine.commit) :=
  (if_neg (Nat.not_le.mpr before)).trans (if_pos eight)

theorem State.scanSlot_goesOn (before : i.val < scan.filter.lastSlot)
    (room : (scan.foundAt i s.engine.slots[i]).length < 8) : s.scanSlot scan i =
    { s with engine := { s.engine with scan := some (scan.stepped i s.engine) } } :=
  (if_neg (Nat.not_le.mpr before)).trans (if_neg (Nat.not_le.mpr room))

/-- A FIND step changes the scan and its result, and no other block but for the event flags. -/
theorem State.scanSlot_frame (s : State) (scan : Scan) (i : SlotNo) :
    (s.scanSlot scan i).bus = s.bus ∧ (s.scanSlot scan i).request = s.request ∧
    (s.scanSlot scan i).control = s.control ∧ (s.scanSlot scan i).pending = s.pending ∧
    (s.scanSlot scan i).engine = { s.engine with
      scan := (s.scanSlot scan i).engine.scan
      findResult := (s.scanSlot scan i).engine.findResult } := by
  unfold State.scanSlot
  extract_lets
  split
  · exact ⟨rfl, rfl, rfl, rfl, rfl⟩
  · split <;> exact ⟨rfl, rfl, rfl, rfl, rfl⟩

/-! ### An entry that arrives while a scan runs (R53) -/

theorem State.yieldScan_started {number : CommitNo} (running : s.engine.scan = some scan)
    (started : scan.commit = some number) : s.yieldScan = s.endScan .yielded scan number := by
  simp [State.yieldScan, running, started]

theorem State.yieldScan_fresh (running : s.engine.scan = some scan) (fresh : scan.commit = none) :
    s.yieldScan = s := by
  simp [State.yieldScan, running, fresh]

/-- The apply queue with an entry at its tail (R25). -/
def State.entryQueued (e : ApplyEntry) (s : State) : State :=
  { s with bus := { s.bus with applyQueue := s.bus.applyQueue ++ [e] } }

theorem State.arrive_eq (e : ApplyEntry) (s : State) :
    s.arrive e = (s.entryQueued e).yieldScan.discardBuilt := rfl

/-- An arriving entry ends a scan that has taken its first step. -/
theorem State.arrive_yields {number : CommitNo} (running : s.engine.scan = some scan)
    (started : scan.commit = some number) (e : ApplyEntry) :
    (s.arrive e).engine.scan = none ∧
    (s.arrive e).engine.findResult = ⟨.yielded, byteOfNat scan.next, scan.found, number⟩ ∧
    (s.arrive e).host.flag .findDone = true := by
  rw [State.arrive_eq, State.discardBuilt_engine, State.discardBuilt_host,
    State.yieldScan_started (s := s.entryQueued e) running started]
  refine ⟨rfl, rfl, ?_⟩
  unfold State.endScan
  rw [State.setEvent_flag]
  exact Bool.or_true _

/-- A scan before its first step goes on. -/
theorem State.arrive_fresh (running : s.engine.scan = some scan) (fresh : scan.commit = none)
    (e : ApplyEntry) : (s.arrive e).engine = s.engine ∧ (s.arrive e).host = s.host := by
  rw [State.arrive_eq, State.discardBuilt_engine, State.discardBuilt_host,
    State.yieldScan_fresh (s := s.entryQueued e) running fresh]
  exact ⟨rfl, rfl⟩

/-- Of another's commit at a station not treated as SYNCING, the arrival of its entry alone touches the
engine and FIND_DONE. -/
theorem State.commits_arrival {r : Record} {ack : BitVec 8} (synced : s.control.inSyncing = false) :
    ∃ (u : State) (e : ApplyEntry), u.engine = s.engine ∧ u.host = s.host ∧
    (s.commitMember r false ack).openWindow.choose.engine = (u.arrive e).engine ∧
    (s.commitMember r false ack).openWindow.choose.host.flag .findDone =
      (u.arrive e).host.flag .findDone := by
  have stays : exitAt s false (commitOf s r ack) = none := exitAt_synced synced
  have engine : (s.commitMember r false ack).openWindow.choose.engine = (s.numbered r ack).engine := by
    rw [State.choose_engine, State.openWindow_engine, State.commitMember_other stays]
    exact (State.handOn_frame ..).2.1
  rw [engine, State.commits_flag_other stays (by decide) (by decide), State.numbered_synced synced]
  refine ⟨_, _, ?_, ?_, rfl, rfl⟩ <;> rfl

end

/-- Settles O51: the step by its three ends, the match by the slot, and the arrival by the scan's start. -/
theorem findStepExaminesOneSlot : Obligations.FindStepExaminesOneSlot := by
  refine ⟨fun scan i s running next => ⟨fun notTurn => ?_, fun turn => ?_⟩,
    fun f => ⟨f.matchesSlot_free, f.matchesSlot_claim⟩,
    fun ack r o rest scan s active phase _ window openList other there ordinary running => ?_⟩
  · exact congrArg Host.Outcome.next (State.findStep_waits notTurn)
  · obtain ⟨bus, request, control, pending, engine⟩ := s.scanSlot_frame scan i
    refine ⟨s.scanSlot scan i, congrArg Host.Outcome.next (State.findStep_at_turn running next turn), bus,
      request, control, pending, engine, fun last => ?_, fun before eight => ?_, fun before room => ?_⟩
    · rw [State.scanSlot_complete last]
      exact ⟨rfl, rfl, rfl⟩
    · rw [State.scanSlot_full before eight]
      exact ⟨rfl, rfl, rfl⟩
    · rw [State.scanSlot_goesOn before room]
      exact ⟨rfl, rfl, rfl⟩
  · have synced : (s.offOpenList rest).control.inSyncing = false := by
      simp [State.offOpenList, Controller.inSyncing, active, phase]
    obtain ⟨u, e, engine, host, arrived, flag⟩ :=
      State.commits_arrival (s := s.offOpenList rest) (r := r) (ack := ack) synced
    refine ⟨_, exec_checkWindowClose_commits window openList other there, ?_⟩
    rw [arrived, flag]
    have runs : u.engine.scan = some scan := by rw [engine]; exact running
    refine ⟨fun number started => State.arrive_yields runs started e, fun fresh => ?_⟩
    obtain ⟨keptEngine, keptHost⟩ := State.arrive_fresh runs fresh e
    rw [keptEngine, keptHost, engine, host]
    exact ⟨running, rfl, rfl⟩

end Sys2Proof.Machine
end

section
/-!
PROOFS. What the host reads at the ports and at COMMIT and DIGEST: bytes of one copy in a frame, the take
of a notice, and the end of the frame (R141, R145, R163, R167 to R170, R179).
-/
namespace Sys2Proof.Machine

/-! ### The copy in effect (R163, R167, R169, R170, R179) -/

/-- What a port holds when a byte has reached it: its copy, where the frame in progress has made one. -/
theorem State.reach_portInEffect {α : Type} (port : HostPort → Option (PortRead α)) (a : Addr)
    (copy : α) (s : State) (begins : ∀ h : HostPort, port (h.beginFrame.commandByte (commandFor true a)) = none) :
    (port (s.reach true a).host).getD ⟨copy, 0⟩ = portInEffect a s (port s.host) copy := by
  unfold State.reach portInEffect
  split
  · rfl
  · rw [begins]; rfl

/-- Bytes beyond the length of a copy are 00h. -/
theorem byteAt_beyond {bytes : List Byte} {i : Nat} (beyond : bytes.length ≤ i) :
    byteAt bytes i = 0x00#8 := List.getD_eq_default _ _ beyond

@[simp] theorem auditBytes_length (record : Option AuditRecord) : (auditBytes record).length = 14 := by
  cases record <;> rfl

@[simp] theorem noticeBytes_length (latch : Option (SlotNo × Notice)) : (noticeBytes latch).length = 6 := by
  cases latch <;> rfl

/-! ### VIEW_PORT, FIND_PORT and AUDIT_PORT (R163, R167, R169) -/

section
variable (s : State)

/-- The copy and pointer in effect at a byte read at VIEW_PORT. -/
def State.viewCopy : PortRead (List Byte) := portInEffect 0x16#7 s s.host.viewRead s.engine.viewBuffer

/-- The copy and pointer in effect at a byte read at FIND_PORT. -/
def State.findCopy : PortRead FindResult := portInEffect 0x1D#7 s s.host.findRead s.engine.findResult

/-- The copy and pointer in effect at a byte read at AUDIT_PORT. -/
def State.auditCopy : PortRead (Option AuditRecord) :=
  portInEffect 0x1E#7 s s.host.auditRead s.engine.auditRecord

theorem State.readView_eq : s.readView =
    State.moved true 0x16#7 (byteAt s.viewCopy.latch s.viewCopy.pointer)
      { s.reach true 0x16#7 with host := { (s.reach true 0x16#7).host with
        viewRead :=
          some ⟨s.viewCopy.latch, min (s.viewCopy.pointer + 1) s.viewCopy.latch.length⟩ } } := by
  have copy := s.reach_portInEffect HostPort.viewRead 0x16#7 s.engine.viewBuffer fun _ => rfl
  unfold State.readView State.viewCopy
  simp only [State.reach_engine, copy]

theorem State.readFind_eq : s.readFind =
    State.moved true 0x1D#7 (byteAt s.findCopy.latch.bytes s.findCopy.pointer)
      { s.reach true 0x1D#7 with host := { (s.reach true 0x1D#7).host with
        findRead := some ⟨s.findCopy.latch, s.findCopy.pointer + 1⟩ } } := by
  have copy := s.reach_portInEffect HostPort.findRead 0x1D#7 s.engine.findResult fun _ => rfl
  unfold State.readFind State.findCopy
  simp only [State.reach_engine, copy]

theorem State.readAudit_eq : s.readAudit =
    State.moved true 0x1E#7 (byteAt (auditBytes s.auditCopy.latch) s.auditCopy.pointer)
      { s.reach true 0x1E#7 with host := { (s.reach true 0x1E#7).host with
        auditRead := some ⟨s.auditCopy.latch, s.auditCopy.pointer + 1⟩ } } := by
  have copy := s.reach_portInEffect HostPort.auditRead 0x1E#7 s.engine.auditRecord fun _ => rfl
  unfold State.readAudit State.auditCopy
  simp only [State.reach_engine, copy]

/-- A byte that reaches its address leaves all but the frame and the ports. -/
theorem State.reach_onlyFrame (read : Bool) (a : Addr) : OnlyFrame s (s.reach read a) := by
  refine ⟨⟨?_, ?_, ?_, ?_, ?_⟩, ?_, ?_, ?_, ?_, ?_⟩ <;> simp

theorem State.readView_onlyFrame : OnlyFrame s s.readView := s.reach_onlyFrame true 0x16#7

theorem State.readFind_onlyFrame : OnlyFrame s s.readFind := s.reach_onlyFrame true 0x1D#7

theorem State.readAudit_onlyFrame : OnlyFrame s s.readAudit := s.reach_onlyFrame true 0x1E#7

theorem State.readCommit_onlyFrame (offset : BitVec 3) : OnlyFrame s (s.readCommit offset) :=
  s.reach_onlyFrame true (commitAddr offset)

/-! ### COMMIT and DIGEST (R168) -/

/-- The latch of COMMIT and DIGEST in effect at a byte read of their range. -/
def State.commitCopy (offset : BitVec 3) : CommitNo × Sys2Proof.Digest :=
  (s.reach true (commitAddr offset)).host.commitLatch.getD (s.engine.commit, s.engine.digest)

theorem State.readCommit_eq (offset : BitVec 3) : s.readCommit offset =
    State.moved true (commitAddr offset)
      (byteAt (bytes32 (s.commitCopy offset).1 ++ bytes32 (s.commitCopy offset).2) offset.toNat)
      { s.reach true (commitAddr offset) with host := { (s.reach true (commitAddr offset)).host with
        commitLatch := some (s.commitCopy offset) } } := by
  unfold State.readCommit State.commitCopy
  simp only [State.reach_engine]

end

section
variable {s : State} {offset : BitVec 3}

/-- A read that goes on with its frame finds the latch of that frame. -/
theorem State.commitCopy_kept {latch : CommitNo × Sys2Proof.Digest}
    (frame : s.host.frame = some ⟨true, commitAddr offset⟩) (kept : s.host.commitLatch = some latch) :
    s.commitCopy offset = latch := by
  rw [State.commitCopy, State.reach_same _ _ _ frame, kept]; rfl

/-- The first read of a frame latches both as they stand. -/
theorem State.commitCopy_first
    (first : s.host.frame ≠ some ⟨true, commitAddr offset⟩ ∨ s.host.commitLatch = none) :
    s.commitCopy offset = (s.engine.commit, s.engine.digest) := by
  by_cases frame : s.host.frame = some ⟨true, commitAddr offset⟩
  · rw [State.commitCopy, State.reach_same _ _ _ frame, first.resolve_left (not_not.mpr frame)]; rfl
  · rw [State.commitCopy, State.reach_new _ _ _ frame]; rfl

end

/-- Settles O23: each read by the copy in effect; the end of the frame is the host port's alone. -/
theorem portsReadFromTheirLatchWithinAFrame : Obligations.PortsReadFromTheirLatchWithinAFrame := by
  refine ⟨fun s => ⟨?_, ?_, ?_⟩, fun offset s => ?_, fun s => ?_⟩
  · have sdo : s.readView.host.sdo = some (byteAt s.viewCopy.latch s.viewCopy.pointer) := by
      rw [s.readView_eq]; rfl
    refine ⟨s.readView, rfl, s.readView_onlyFrame, sdo, by rw [s.readView_eq]; rfl, fun beyond => ?_⟩
    exact sdo.trans (congrArg some (byteAt_beyond beyond))
  · have sdo : s.readFind.host.sdo = some (byteAt s.findCopy.latch.bytes s.findCopy.pointer) := by
      rw [s.readFind_eq]; rfl
    refine ⟨s.readFind, rfl, s.readFind_onlyFrame, sdo, by rw [s.readFind_eq]; rfl, fun beyond => ?_⟩
    exact sdo.trans (congrArg some (byteAt_beyond beyond))
  · have sdo : s.readAudit.host.sdo =
        some (byteAt (auditBytes s.auditCopy.latch) s.auditCopy.pointer) := by
      rw [s.readAudit_eq]; rfl
    refine ⟨s.readAudit, rfl, s.readAudit_onlyFrame, sdo, by rw [s.readAudit_eq]; rfl, fun beyond => ?_⟩
    exact sdo.trans (congrArg some (byteAt_beyond (by rwa [auditBytes_length])))
  · refine ⟨s.readCommit offset, rfl, s.readCommit_onlyFrame offset, s.commitCopy offset, ?_, ?_,
      fun frame latch kept => State.commitCopy_kept frame kept, State.commitCopy_first⟩
    all_goals rw [s.readCommit_eq]; rfl
  · exact ⟨{ s with host := s.host.endFrame }, rfl, ⟨⟨rfl, rfl, rfl, rfl, rfl⟩, rfl, rfl, rfl, rfl, rfl⟩,
      rfl, rfl, rfl, rfl, rfl, rfl, rfl, rfl, rfl, rfl⟩

/-! ### The lowest marked notice and its take (R170) -/

section
variable {notices : Vector (Option Notice) 64} {i : SlotNo} {n m : Notice}

theorem firstNotice_eq_some_iff : firstNotice notices = some (i, n) ↔
    notices[i] = some n ∧ ∀ j : SlotNo, j < i → notices[j] = none := by
  have found : firstNotice notices = some (i, n) ↔
      (upTo 64).find? (fun j => notices[j].isSome) = some i ∧ notices[i] = some n := by
    simp only [firstNotice, Option.bind_eq_some_iff, Option.map_eq_some_iff, Prod.mk.injEq]
    constructor
    · rintro ⟨j, first, x, marked, rfl, rfl⟩
      exact ⟨first, marked⟩
    · rintro ⟨first, marked⟩
      exact ⟨i, first, n, marked, rfl, rfl⟩
  rw [found, find?_upTo_eq_some]
  simp only [Option.isSome_eq_false_iff, Option.isNone_iff_eq_none]
  constructor
  · rintro ⟨⟨-, before⟩, marked⟩
    exact ⟨marked, before⟩
  · rintro ⟨marked, before⟩
    exact ⟨⟨by rw [marked]; rfl, before⟩, marked⟩

/-- A take leaves every other entry. -/
theorem takeNotice_other {j : SlotNo} (other : j ≠ i) :
    (takeNotice (some (i, n)) notices)[j] = notices[j] := by
  unfold takeNotice
  dsimp only
  split
  · exact getElem_put_other _ _ _ _ other.symm
  · rfl

/-- The entry copied is unmarked while it carries the commit number copied. -/
theorem takeNotice_same (marked : notices[i] = some m) (same : m.commit = n.commit) :
    (takeNotice (some (i, n)) notices)[i] = none := by
  have taken : takeNotice (some (i, n)) notices = put notices i none := if_pos (by simp [marked, same])
  rw [taken, getElem_put_same]

/-- An entry marked again since it was copied stays marked. -/
theorem takeNotice_renewed (marked : notices[i] = some m) (renewed : m.commit ≠ n.commit) :
    (takeNotice (some (i, n)) notices)[i] = some m := by
  simp [takeNotice, marked, renewed]

end

/-! ### NOTICE_PORT (R170) -/

section
variable (s : State)

/-- The copy and pointer in effect at a byte read at NOTICE_PORT. -/
def State.noticeCopy : PortRead (Option (SlotNo × Notice)) :=
  portInEffect 0x14#7 s s.host.noticeRead (firstNotice s.engine.notices)

theorem State.readNotice_eq : s.readNotice =
    State.moved true 0x14#7 (byteAt (noticeBytes s.noticeCopy.latch) s.noticeCopy.pointer)
      { s.reach true 0x14#7 with
        host := { (s.reach true 0x14#7).host with
          noticeRead := some ⟨s.noticeCopy.latch, s.noticeCopy.pointer + 1⟩ }
        engine := { s.engine with
          notices := if s.noticeCopy.pointer = 5 then takeNotice s.noticeCopy.latch s.engine.notices
            else s.engine.notices } } := by
  have copy := s.reach_portInEffect HostPort.noticeRead 0x14#7 (firstNotice s.engine.notices) fun _ => rfl
  unfold State.readNotice State.noticeCopy
  simp only [State.reach_engine, copy]

/-- Another byte than the sixth takes nothing. -/
theorem State.readNotice_keeps (keeps : s.noticeCopy.pointer ≠ 5 ∨ s.noticeCopy.latch = none) :
    s.readNotice.engine.notices = s.engine.notices := by
  rw [s.readNotice_eq]
  rcases keeps with other | empty
  · exact if_neg other
  · rw [empty]
    exact ite_self _

/-- The sixth byte takes the entry copied. -/
theorem State.readNotice_takes (sixth : s.noticeCopy.pointer = 5) :
    s.readNotice.engine.notices = takeNotice s.noticeCopy.latch s.engine.notices := by
  rw [s.readNotice_eq]
  exact if_pos sixth

end

/-- Settles O22: the byte comes from the copy in effect, and the sixth takes the entry copied. -/
theorem noticeIsTakenAtTheSixthByte : Obligations.NoticeIsTakenAtTheSixthByte := by
  intro s
  obtain ⟨⟨bus, -, request, control, pending⟩, registers⟩ := s.reach_onlyFrame true 0x14#7
  have sdo : s.readNotice.host.sdo =
      some (byteAt (noticeBytes s.noticeCopy.latch) s.noticeCopy.pointer) := by
    rw [s.readNotice_eq]; rfl
  refine ⟨s.readNotice, rfl, bus, request, control, pending, registers, by rw [s.readNotice_eq]; rfl, sdo,
    by rw [s.readNotice_eq]; rfl, s.readNotice_keeps, fun i n sixth copied => ?_, fun beyond => ?_,
    fun i n => firstNotice_eq_some_iff, fun i n => rfl, rfl⟩
  · change s.noticeCopy.latch = some (i, n) at copied
    rw [s.readNotice_takes sixth, copied]
    exact ⟨fun j => takeNotice_other, fun m => takeNotice_same, fun m => takeNotice_renewed⟩
  · exact sdo.trans (congrArg some (byteAt_beyond (by rwa [noticeBytes_length])))

end Sys2Proof.Machine
end

section
/-!
PROOFS. Registers written and read byte by byte, the bytes of a request before its last, and the SPI frame
around them (R141, R164, R179, R180, R186).
-/
namespace Sys2Proof.Machine

/-! ### Registers written (R164, R179, R180) -/

/-- The FIND registers after a byte has been written at an address (R164). -/
def FindFilter.written (a : Addr) (value : Byte) (f : FindFilter) : FindFilter :=
  if a = 0x17#7 then { f with first := value }
  else if a = 0x18#7 then { f with last := value }
  else if a = 0x19#7 then { f with holder := value }
  else if a = 0x1A#7 then { f with pool := value }
  else if a = 0x1B#7 then { f with masks := value &&& 0xF7#8 }
  else f

/-- The addresses with no row of their own, by number. -/
theorem hasOwnRow_eq_false_iff : ∀ a : Addr, hasOwnRow a = false ↔
    a.toNat ∉ [0x06, 0x07, 0x08, 0x0C, 0x0D, 0x0E, 0x0F, 0x15, 0x1C] := by decide

/-- A write at an address with no row of its own, REQ_PORT apart, reaches the FIND registers alone: an arm
of the write is that of a row, of REQ_PORT, of one FIND register, or of an ignored address. -/
theorem State.writeEffect_register {a : Addr} (value : Byte) (s : State) (plain : hasOwnRow a = false)
    (register : a ≠ 0x12#7) :
    s.writeEffect a value =
      { s with host := { s.host with find := s.host.find.written a value } } := by
  have number : ∀ b : Addr, a = b ↔ a.toNat = b.toNat := fun b => BitVec.toNat_inj.symm
  rw [hasOwnRow_eq_false_iff] at plain
  unfold State.writeEffect FindFilter.written
  simp only [number, Ne] at register ⊢
  split <;> simp_all [findMaskBits]

/-! ### The bytes of a request before its last (R141) -/

theorem State.requestByte_before {s : State} (value : Byte) (before : s.host.requestBytes.length < 7) :
    s.requestByte value =
      { s with host := { s.host with requestBytes := s.host.requestBytes ++ [value] } } := by
  simp [State.requestByte, Nat.succ_lt_succ before]

/-! ### Registers read (R179, R180) -/

/-- The addresses with no row of their own for a read, by number. -/
theorem hasReadRow_eq_false_iff : ∀ a : Addr, hasReadRow a = false ↔
    a.toNat ∉ [0x0C, 0x0D, 0x13, 0x14, 0x16, 0x1D, 0x1E] ∧ ¬ (0x20 ≤ a.toNat ∧ a.toNat ≤ 0x27) := by
  decide

theorem State.read_plain {a : Addr} (s : State) (plain : hasReadRow a = false) :
    s.read a = s.readPlain a := by
  obtain ⟨noRow, noDigest⟩ := (hasReadRow_eq_false_iff a).mp plain
  unfold State.read
  split
  case h_8 => exact if_neg noDigest
  all_goals simp_all

/-- A byte read of COMMIT and DIGEST. -/
theorem State.read_commit (offset : BitVec 3) (s : State) :
    s.read (commitAddr offset) = s.readCommit offset := by
  rcases offset_cases offset with rfl | rfl | rfl | rfl | rfl | rfl | rfl | rfl <;> rfl

/-- A byte that reaches its address changes nothing that an address reads. -/
theorem State.reach_peek (read : Bool) (a b : Addr) (s : State) :
    (s.reach read a).peek b = s.peek b := by
  unfold State.reach
  split <;> rfl

theorem State.readPlain_sdo (a : Addr) (s : State) : (s.readPlain a).host.sdo = some (s.peek a) :=
  congrArg some (s.reach_peek true a a)

/-- Write-only, port and unassigned addresses read 00h (R180). -/
theorem State.peek_unreadable {a : Addr} (s : State)
    (unreadable : a.toNat ∈ [0x08, 0x0B, 0x12, 0x15, 0x1C, 0x1F] ∨ 0x28 ≤ a.toNat) :
    s.peek a = 0x00#8 := by
  have outside : ¬ (0x20 ≤ a.toNat ∧ a.toNat ≤ 0x27) := by
    simp only [List.mem_cons, List.not_mem_nil, or_false] at unreadable
    omega
  unfold State.peek
  split
  case h_22 => exact if_neg outside
  all_goals simp_all

/-! ### The address that follows (R179) -/

theorem isPort_iff : ∀ a : Addr, isPort a = true ↔ a.toNat ∈ [0x12, 0x13, 0x14, 0x16, 0x1D, 0x1E] := by
  decide

theorem nextAddr_eq (a : Addr) : nextAddr a =
    if a.toNat ∈ [0x12, 0x13, 0x14, 0x16, 0x1D, 0x1E] then a
    else if a = 0x7F#7 then 0x00#7 else BitVec.ofNat 7 (a.toNat + 1) := by
  simp only [nextAddr, isPort_iff]
  split
  · rfl
  · split
    · next last => rw [last]; rfl
    · exact BitVec.eq_of_toNat_eq (by simp)

/-! ### Accesses at an address with a row of its own (log entry 6) -/

/-- A byte read at an address with a row of its own is that row. -/
theorem exec_read_row (value : Byte) (high : Bool) (offset : BitVec 3) (s : State) :
    exec (.registerWrite (.read 0x13#7) value) s = exec .completionTake s ∧
    exec (.registerWrite (.read 0x14#7) value) s = exec .noticeTake s ∧
    exec (.registerWrite (.read 0x16#7) value) s = exec .viewPortRead s ∧
    exec (.registerWrite (.read 0x1D#7) value) s = exec .findPortRead s ∧
    exec (.registerWrite (.read 0x1E#7) value) s = exec .auditPortRead s ∧
    exec (.registerWrite (.read (if high then 0x0D#7 else 0x0C#7)) value) s = exec (.eventsRead high) s ∧
    exec (.registerWrite (.read (0x4#4 ++ offset)) value) s = exec (.commitDigestRead offset) s :=
  ⟨rfl, rfl, rfl, rfl, rfl, by cases high <;> rfl, congrArg Host.Outcome.next (s.read_commit offset)⟩

/-! ### The frame (R179, R186) -/

section
variable {s : State}

/-- CS asserted: every port is at its first byte, and no address is set yet. -/
theorem State.select_released (released : s.host.selected = false) :
    OnlyFrame s s.select ∧ s.select.host.selected = true ∧ s.select.host.sdo = some 0x00#8 ∧
    s.select.host.frame = none ∧ s.select.host.requestBytes = [] ∧ s.select.host.unlatched := by
  rw [s.select_eq released]
  exact ⟨⟨⟨rfl, rfl, rfl, rfl, rfl⟩, rfl, rfl, rfl, rfl, rfl⟩, rfl, rfl, rfl, rfl,
    rfl, rfl, rfl, rfl, rfl, rfl, rfl⟩

theorem State.select_asserted (asserted : s.host.selected = true) : s.select = s := if_pos asserted

/-- Bit 7 of the command byte gives the direction, its other bits the address (R179). -/
theorem HostPort.commandByte_eq (value : Byte) (h : HostPort) : h.commandByte value =
    { h with frame := some ⟨value.getLsbD 7, value.extractLsb' 0 7⟩, sdo := some 0x00#8 } := by
  rw [HostPort.commandByte, BitVec.msb_eq_getLsbD_last]

end

/-- Settles O18: each write and read by its address, and the frame by what CS and the bytes before have
left. -/
theorem registerWritesReachTheirRegister : Obligations.RegisterWritesReachTheirRegister := by
  refine ⟨fun addr value s plain register => ?_, fun value s before => ?_, fun addr value s plain => ?_,
    fun value s => ⟨fun asserted => ?_, fun released => ⟨?_, ?_⟩, fun asserted frame => ?_,
      fun a asserted frame => ?_, fun a asserted frame => ?_⟩, fun value high offset s => ?_, nextAddr_eq⟩
  · refine ⟨s.write addr value, rfl, ?_⟩
    have shown := s.write_afterWriteAt addr value
    rw [State.write_eq, State.writeEffect_register _ _ plain register] at shown ⊢
    exact ⟨⟨by simp, by simp, by simp, by simp, by simp⟩, by simp, by simp, by simp, by simp, shown,
      congrArg (FindFilter.written addr value) (State.reach_host_find ..)⟩
  · have bytes := s.reach_requestBytes false 0x12#7
    have room : (s.reach false 0x12#7).host.requestBytes.length < 7 := by
      rw [bytes]
      split
      · next frame => exact before frame
      · exact Nat.succ_pos 6
    refine ⟨s.write 0x12#7 value, rfl, ?_⟩
    rw [State.write_eq, State.writeEffect_request, State.requestByte_before value room]
    exact ⟨⟨by simp, by simp, by simp, by simp, by simp⟩, ⟨by simp, by simp, by simp, by simp, by simp⟩,
      rfl, congrArg (· ++ [value]) bytes⟩
  · exact ⟨s.readPlain addr, congrArg Host.Outcome.next (s.read_plain plain),
      s.readPlain_onlyFrame addr, rfl, rfl, s.readPlain_sdo addr, fun unreadable =>
        (s.readPlain_sdo addr).trans (congrArg some (s.peek_unreadable unreadable))⟩
  · exact congrArg Host.Outcome.next (State.select_asserted asserted)
  · exact congrArg Host.Outcome.next (s.spiByte_released value released)
  · obtain ⟨only, selected, sdo, frame, bytes, ports⟩ := State.select_released released
    exact ⟨s.select, rfl, only, selected, sdo, frame, bytes, ports⟩
  · rw [← HostPort.commandByte_eq]
    exact congrArg Host.Outcome.next (s.spiByte_command value asserted frame)
  · exact congrArg Host.Outcome.next (s.spiByte_data value ⟨false, a⟩ asserted frame)
  · exact congrArg Host.Outcome.next (s.spiByte_data value ⟨true, a⟩ asserted frame)
  · obtain ⟨completion, notice, view, find, audit, events, commit⟩ := exec_read_row value high offset s
    exact ⟨completion, notice, view, find, audit, events, commit, rfl, rfl, rfl, rfl, rfl, rfl, rfl, rfl,
      rfl⟩

end Sys2Proof.Machine
end

section
/-!
PROOFS. The event flags at the host port: EVENTS cleared and read, EVMASK written, and INT (R171 to R175,
Table 42).
-/
namespace Sys2Proof.Machine

/-! ### Bits of EVENTS and EVMASK (R173, R174, Table 42) -/

/-- The flags take the lowest eleven positions. -/
theorem flagPositions_getLsbD (i : Nat) : flagPositions.getLsbD i = decide (i < 11) := by
  have eleven : (0x07FF).testBit i = decide (i < 11) := Nat.testBit_two_pow_sub_one 11 i
  rw [flagPositions, BitVec.getLsbD_ofNat, eleven, ← Bool.decide_and, decide_eq_decide]
  omega

/-- In the upper byte three positions carry a flag, in the lower byte all of them. -/
theorem flagPositions_byte (high : Bool) {i : Nat} (inByte : i < 8) :
    flagPositions.getLsbD (if high then i + 8 else i) = (!high || decide (i < 3)) := by
  rw [flagPositions_getLsbD]
  cases high
  · exact decide_eq_true (Nat.lt_of_lt_of_le inByte (by decide))
  · exact decide_eq_decide.mpr Nat.add_lt_add_iff_right

theorem clearFlags_getLsbD (high : Bool) (value : Byte) (events : BitVec 16) (i : Nat) :
    (clearFlags high value events).getLsbD i =
      (events.getLsbD i && !(replaceByte high value 0#16).getLsbD i) := by
  rw [clearFlags, BitVec.getLsbD_and, BitVec.getLsbD_not]
  by_cases inWord : i < 16
  · rw [decide_eq_true inWord, Bool.true_and]
  · rw [BitVec.getLsbD_of_ge events i (Nat.not_lt.mp inWord), Bool.false_and, Bool.false_and]

/-- A flag of the byte written stays where it is written 0. -/
theorem clearFlags_same (high : Bool) (value : Byte) (events : BitVec 16) {i : Nat} (inByte : i < 8) :
    (clearFlags high value events).getLsbD (if high then i + 8 else i) =
      (events.getLsbD (if high then i + 8 else i) && !value.getLsbD i) := by
  rw [clearFlags_getLsbD, (replaceByte_getLsbD high value 0#16 i inByte).1]

/-- The flags of the other byte are written 0. -/
theorem clearFlags_other (high : Bool) (value : Byte) (events : BitVec 16) {i : Nat} (inByte : i < 8) :
    (clearFlags high value events).getLsbD (if high then i else i + 8) =
      events.getLsbD (if high then i else i + 8) := by
  rw [clearFlags_getLsbD, (replaceByte_getLsbD high value 0#16 i inByte).2, BitVec.getLsbD_zero,
    Bool.not_false, Bool.and_true]

theorem writeMask_getLsbD (high : Bool) (value : Byte) (mask : BitVec 16) (i : Nat) :
    (writeMask high value mask).getLsbD i =
      ((replaceByte high value mask).getLsbD i && flagPositions.getLsbD i) := BitVec.getLsbD_and

/-- The enables of the byte written are those written, at the positions that carry a flag. -/
theorem writeMask_same (high : Bool) (value : Byte) (mask : BitVec 16) {i : Nat} (inByte : i < 8) :
    (writeMask high value mask).getLsbD (if high then i + 8 else i) =
      (value.getLsbD i && (!high || decide (i < 3))) := by
  rw [writeMask_getLsbD, (replaceByte_getLsbD high value mask i inByte).1, flagPositions_byte high inByte]

/-- The enables of the other byte stay, where that byte is 0 at the positions without a flag. -/
theorem writeMask_other (high : Bool) (value : Byte) {mask : BitVec 16}
    (reserved : mask &&& ~~~ flagPositions = 0#16) {i : Nat} (inByte : i < 8) :
    (writeMask high value mask).getLsbD (if high then i else i + 8) =
      mask.getLsbD (if high then i else i + 8) := by
  rw [writeMask_getLsbD, (replaceByte_getLsbD high value mask i inByte).2, flagPositions_getLsbD]
  by_cases carries : (if high then i else i + 8) < 11
  · rw [decide_eq_true carries, Bool.and_true]
  · rw [getLsbD_of_reserved mask reserved _ (Nat.not_lt.mp carries), Bool.false_and]

theorem writeMask_beyond (high : Bool) (value : Byte) (mask : BitVec 16) {i : Nat} (beyond : 11 ≤ i) :
    (writeMask high value mask).getLsbD i = false := by
  rw [writeMask_getLsbD, flagPositions_getLsbD, decide_eq_false (Nat.not_lt.mpr beyond), Bool.and_false]

/-- The bits of a byte that the positions of Table 42 leave of it. -/
theorem flagBits_getLsbD : ∀ high : Bool, ∀ i < 8,
    (if high then 0x07#8 else 0xFF#8 : Byte).getLsbD i = (!high || decide (i < 3)) := by decide

/-- A byte of the mask reads as written, 0 at the positions without a flag. -/
theorem byteOf_writeMask (high : Bool) (value : Byte) (mask : BitVec 16) :
    byteOf high (writeMask high value mask) = value &&& (if high then 0x07#8 else 0xFF#8) :=
  byteOf_eq_of_getLsbD _ _ _ fun i inByte => by
    rw [writeMask_same high value mask inByte, BitVec.getLsbD_and, flagBits_getLsbD high i inByte]

/-! ### EVENTS_CLEAR (R173) -/

section
variable (high : Bool) (value : Byte) (s : State)

theorem State.write_events : s.write (eventsAddr high) value =
    ((s.reach false (eventsAddr high)).eventsByte high value).moved false (eventsAddr high) 0x00#8 :=
  congrArg (State.moved false (eventsAddr high) 0x00#8) (State.writeEffect_events high value _)

/-- A byte written to EVENTS clears flags as `clearFlags` says. -/
theorem State.write_events_host_events : (s.write (eventsAddr high) value).host.events =
    clearFlags high value s.host.events := by
  rw [s.write_events]
  exact congrArg (clearFlags high value) (s.reach_host_events false (eventsAddr high))

/-- A byte written to EVENTS leaves the other blocks and the other registers. -/
theorem State.write_events_frame : OnlyHost s (s.write (eventsAddr high) value) ∧
    (s.write (eventsAddr high) value).host.site = s.host.site ∧
    (s.write (eventsAddr high) value).host.mask = s.host.mask ∧
    (s.write (eventsAddr high) value).host.lastCmd = s.host.lastCmd ∧
    (s.write (eventsAddr high) value).host.find = s.host.find := by
  obtain ⟨only, site, -, mask, lastCmd, find⟩ := s.reach_onlyFrame false (eventsAddr high)
  rw [s.write_events]
  exact ⟨only, site, mask, lastCmd, find⟩

end

/-- Settles O13: the flags after the write are those of `clearFlags`, bit by bit. -/
theorem eventsAreClearedByWritingOnes : Obligations.EventsAreClearedByWritingOnes := by
  intro high value s
  obtain ⟨only, site, mask, lastCmd, find⟩ := s.write_events_frame high value
  refine ⟨s.write (eventsAddr high) value, rfl, only, site, mask, lastCmd, find, ?_⟩
  rw [s.write_events_host_events]
  refine ⟨fun i inByte => clearFlags_same high value _ inByte,
    fun i inByte => clearFlags_other high value _ inByte, fun reserved i beyond => ?_, fun e => ?_⟩
  · rw [clearFlags_getLsbD, getLsbD_of_reserved _ reserved.1 i beyond, Bool.false_and]
  · rw [State.setEvent_flag, beq_self_eq_true, Bool.or_true]

/-! ### EVMASK_WRITE (R174) -/

/-- The address of one byte of EVMASK. -/
def maskAddr (high : Bool) : Addr := if high then 0x0F#7 else 0x0E#7

section
variable (high : Bool) (value : Byte) (s : State)

theorem State.write_mask : s.write (maskAddr high) value =
    ((s.reach false (maskAddr high)).maskByte high value).moved false (maskAddr high) 0x00#8 :=
  congrArg (State.moved false (maskAddr high) 0x00#8) (State.writeEffect_mask high value _)

/-- A byte written to EVMASK replaces enables as `writeMask` says. -/
theorem State.write_mask_host_mask : (s.write (maskAddr high) value).host.mask =
    writeMask high value s.host.mask := by
  rw [s.write_mask]
  exact congrArg (writeMask high value) (s.reach_host_mask false (maskAddr high))

/-- A byte written to EVMASK leaves the other blocks and the other registers. -/
theorem State.write_mask_frame : OnlyHost s (s.write (maskAddr high) value) ∧
    (s.write (maskAddr high) value).host.site = s.host.site ∧
    (s.write (maskAddr high) value).host.events = s.host.events ∧
    (s.write (maskAddr high) value).host.lastCmd = s.host.lastCmd ∧
    (s.write (maskAddr high) value).host.find = s.host.find := by
  obtain ⟨only, site, events, -, lastCmd, find⟩ := s.reach_onlyFrame false (maskAddr high)
  rw [s.write_mask]
  exact ⟨only, site, events, lastCmd, find⟩

/-- EVMASK reads the enables as they stand (R174). -/
theorem State.peek_mask : s.peek (maskAddr high) = byteOf high s.host.mask := by
  cases high <;> rfl

end

/-- Settles O14: the mask after the write is that of `writeMask`, bit by bit; the flags are as they were,
and setting and clearing them reads no enable. -/
theorem maskHoldsOneEnableForEachFlag : Obligations.MaskHoldsOneEnableForEachFlag := by
  refine ⟨fun high value s => ?_, fun s => ⟨_, rfl, rfl⟩, fun s => ⟨_, rfl, rfl⟩⟩
  obtain ⟨only, site, events, lastCmd, find⟩ := s.write_mask_frame high value
  have shown : (s.write (maskAddr high) value).peek (maskAddr high) =
      value &&& (if high then 0x07#8 else 0xFF#8) := by
    rw [State.peek_mask, s.write_mask_host_mask, byteOf_writeMask]
  refine ⟨s.write (maskAddr high) value, rfl, only, site, events, lastCmd, find, ?_⟩
  rw [s.write_mask_host_mask]
  refine ⟨fun i inByte => writeMask_same high value _ inByte,
    fun reserved i inByte => writeMask_other high value reserved.2.1 inByte,
    fun i beyond => writeMask_beyond high value _ beyond, shown, fun e => ?_, fun h v =>
      ⟨s.write (eventsAddr h) v, (s.write (maskAddr high) value).write (eventsAddr h) v, rfl, rfl, ?_⟩⟩
  · rw [State.setEvent_host_events, State.setEvent_host_events, events]
  · rw [State.write_events_host_events, State.write_events_host_events, events]

/-! ### INT (R175) -/

section
variable (e : Event) (s : State)

/-- An event sets the bit of its flag and leaves every other (R171). -/
theorem State.setEvent_getLsbD (i : Nat) : (s.setEvent e).host.events.getLsbD i =
    (s.host.events.getLsbD i || decide (e.position = i)) := by
  have inWord : e.position < 16 := Nat.lt_of_lt_of_le e.position_lt (by decide)
  rw [State.setEvent_host_events, BitVec.getLsbD_or, ← BitVec.twoPow_eq, BitVec.getLsbD_twoPow,
    decide_eq_true inWord, Bool.true_and]

/-- An event asserts INT where its flag is enabled, and leaves INT where it is not. -/
theorem State.setEvent_intAsserted : (s.setEvent e).intAsserted =
    (s.intAsserted || s.host.mask.getLsbD e.position) := by
  rw [Bool.eq_iff_iff, Bool.or_eq_true, State.intAsserted_iff, State.intAsserted_iff]
  simp only [State.setEvent_getLsbD, State.setEvent_host_mask, Bool.or_eq_true, decide_eq_true_eq,
    or_and_right, exists_or, exists_eq_left']

end

/-- With every enable clear INT is released. -/
theorem State.intAsserted_of_unmasked {s : State} (clear : s.host.mask = 0#16) :
    s.intAsserted = false := by
  rw [State.intAsserted, clear, BitVec.and_zero, bne_self_eq_false]

/-- INT by flags, where only their positions are ever set. -/
theorem State.intAsserted_iff_flag {s : State} (reserved : s.reservedRead0) : s.intAsserted = true ↔
    ∃ e : Event, s.host.flag e = true ∧ s.host.mask.getLsbD e.position = true := by
  rw [State.intAsserted_iff]
  constructor
  · rintro ⟨i, set, enabled⟩
    have carries : i < 11 := by
      by_contra beyond
      rw [getLsbD_of_reserved _ reserved.1 i (Nat.not_lt.mp beyond)] at set
      exact Bool.false_ne_true set
    obtain ⟨e, rfl⟩ := Event.exists_position i carries
    exact ⟨e, set, enabled⟩
  · rintro ⟨e, set, enabled⟩
    exact ⟨e.position, set, enabled⟩

/-- Settles O15: INT by flags, and INT after one event; both resets clear the mask. -/
theorem intFollowsSetAndEnabledFlags : Obligations.IntFollowsSetAndEnabledFlags := by
  refine ⟨fun s reserved => State.intAsserted_iff_flag reserved, fun s e enabled => ?_,
    fun s e disabled => ?_, fun s => ?_, fun s => ?_⟩
  · rw [State.setEvent_intAsserted, enabled, Bool.or_true]
  · rw [State.setEvent_intAsserted, disabled, Bool.or_false]
  · obtain ⟨t, run, mask⟩ := maskHoldsOneEnableForEachFlag.2.1 s
    exact ⟨t, run, State.intAsserted_of_unmasked mask⟩
  · obtain ⟨t, run, mask⟩ := maskHoldsOneEnableForEachFlag.2.2 s
    exact ⟨t, run, State.intAsserted_of_unmasked mask⟩

/-! ### EVENTS_READ (R172) -/

section
variable (high : Bool) (s : State)

/-- A byte keeps the latch of EVENTS where it goes on with its frame, and finds none elsewhere. -/
theorem State.reach_eventsLatch (read : Bool) (a : Addr) : (s.reach read a).host.eventsLatch =
    if s.host.frame = some ⟨read, a⟩ then s.host.eventsLatch else none := by
  unfold State.reach
  split <;> rfl

/-- The latch of EVENTS in effect at a byte read there: that of the frame, else the flags as they stand. -/
def State.eventsCopy : BitVec 16 :=
  if s.host.frame = some ⟨true, eventsAddr high⟩ then s.host.eventsLatch.getD s.host.events
  else s.host.events

theorem State.readEvents_eq : s.readEvents high =
    State.moved true (eventsAddr high) (byteOf high (s.eventsCopy high))
      { s.reach true (eventsAddr high) with host := { (s.reach true (eventsAddr high)).host with
        eventsLatch := some (s.eventsCopy high) } } := by
  have copy : (s.reach true (eventsAddr high)).host.eventsLatch.getD s.host.events =
      s.eventsCopy high := by
    rw [State.reach_eventsLatch, State.eventsCopy]
    split <;> rfl
  unfold State.readEvents
  simp only [State.reach_host_events, copy]

theorem State.readEvents_onlyFrame : OnlyFrame s (s.readEvents high) :=
  s.reach_onlyFrame true (eventsAddr high)

theorem nextAddr_eventsAddr : nextAddr (eventsAddr high) = if high then 0x0E#7 else 0x0D#7 := by
  cases high <;> rfl

end

/-- A read that goes on with its frame comes from the latch of that frame. -/
theorem State.eventsCopy_kept {s : State} {high : Bool} {latch : BitVec 16}
    (frame : s.host.frame = some ⟨true, eventsAddr high⟩) (kept : s.host.eventsLatch = some latch) :
    s.eventsCopy high = latch := by
  rw [State.eventsCopy, if_pos frame, kept, Option.getD_some]

/-- The first read of a frame latches the flags as they stand. -/
theorem State.eventsCopy_first {s : State} {high : Bool}
    (first : s.host.frame ≠ some ⟨true, eventsAddr high⟩ ∨ s.host.eventsLatch = none) :
    s.eventsCopy high = s.host.events := by
  rw [State.eventsCopy]
  split
  · next frame => rw [first.resolve_left (not_not.mpr frame), Option.getD_none]
  · rfl

/-- In the upper byte of EVENTS the positions from 3 on carry no flag and read 0 (R172, Table 42). -/
theorem byteOf_high_of_reserved {x : BitVec 16} (reserved : x &&& ~~~ flagPositions = 0#16) {i : Nat}
    (beyond : 3 ≤ i) : (byteOf true x).getLsbD i = false := by
  by_cases inByte : i < 8
  · rw [byteOf_getLsbD true x i inByte]
    exact getLsbD_of_reserved x reserved (i + 8) (Nat.add_le_add_right beyond 8)
  · exact BitVec.getLsbD_of_ge _ i (Nat.not_lt.mp inByte)

/-- Settles O16: the byte and the latch left are those of the copy in effect. -/
theorem eventsAreReadFromOneLatch : Obligations.EventsAreReadFromOneLatch := by
  intro high s
  have sdo : (s.readEvents high).host.sdo = some (byteOf high (s.eventsCopy high)) := by
    rw [s.readEvents_eq]; rfl
  have latched : (s.readEvents high).host.eventsLatch = some (s.eventsCopy high) := by
    rw [s.readEvents_eq]; rfl
  refine ⟨s.readEvents high, rfl, s.readEvents_onlyFrame high, fun latch frame kept => ?_,
    fun first => ?_, ?_⟩
  · rw [sdo, latched, State.eventsCopy_kept frame kept]
    exact ⟨rfl, rfl⟩
  · rw [sdo, latched, State.eventsCopy_first first]
    refine ⟨rfl, rfl, fun reserved upper i beyond => ?_⟩
    rw [upper]
    exact byteOf_high_of_reserved reserved.1 beyond
  · rw [s.readEvents_eq, State.moved_host_frame, nextAddr_eventsAddr]

end Sys2Proof.Machine
end


section
/-!
PROOFS. The queue of commands: what a step takes off it, and that every command completes and leaves the
rest of it as it was. That an empty queue idles is the model's choice (log entry 2).
-/
namespace Sys2Proof.Machine

/-! ### A step -/

/-- With nothing waiting the block idles (log entry 2). -/
theorem step_idle {s : State} (empty : s.pending = []) : step s = .next s := by
  unfold step
  rw [empty]

/-- The front command runs on the rest of the queue. -/
theorem step_front {c : Instr} {rest : List Instr} {s : State} (front : s.pending = c :: rest) :
    step s = exec c { s with pending := rest } := by
  unfold step
  rw [front]

/-- Settles O1: the two forms of the queue. -/
theorem stepRunsTheFrontCommandElseIdles : Obligations.StepRunsTheFrontCommandElseIdles :=
  ⟨fun _ _ _ => step_front rfl, fun _ => step_idle⟩

/-! ### The queue under the host port -/

@[simp] theorem State.command_pending (value : Byte) (s : State) :
    (s.command value).pending = s.pending := by
  unfold State.command
  split
  · exact s.commandStart_pending
  · split
    · exact s.commandLeave_pending
    · split
      · exact s.commandWithdraw_pending
      · split <;> rfl

@[simp] theorem State.writeEffect_pending (a : Addr) (value : Byte) (s : State) :
    (s.writeEffect a value).pending = s.pending := by
  unfold State.writeEffect
  split <;> simp

@[simp] theorem State.write_pending (a : Addr) (value : Byte) (s : State) :
    (s.write a value).pending = s.pending := by
  rw [State.write_eq, State.moved_pending, State.writeEffect_pending, State.reach_pending]

/-- A byte read changes nothing outside the host port, the request unit and the notices. -/
@[simp] theorem State.read_pending (a : Addr) (s : State) : (s.read a).pending = s.pending := by
  unfold State.read
  split
  case h_3 =>
    obtain ⟨⟨-, -, -, pending⟩, -⟩ := s.readCompletion_frame
    exact pending
  case h_8 =>
    split
    · exact State.reach_pending ..
    · exact State.reach_pending ..
  all_goals exact State.reach_pending ..

@[simp] theorem State.select_pending (s : State) : s.select.pending = s.pending := by
  unfold State.select
  split <;> rfl

@[simp] theorem State.spiByte_pending (value : Byte) (s : State) :
    (s.spiByte value).pending = s.pending := by
  unfold State.spiByte
  split
  · split
    · rfl
    · split
      · exact s.read_pending _
      · exact s.write_pending _ _
  · rfl

/-! ### The queue under the commands of the share bus -/

@[simp] theorem State.recordStarts_pending (winner : StationNo) (own : Bool)
    (started : Option (List Nibble)) (s : State) :
    (s.recordStarts winner own started).pending = s.pending := by
  obtain ⟨-, -, -, -, pending, -, -⟩ := s.recordStarts_frame winner own started
  exact pending

@[simp] theorem State.round_pending (req : BitVec 8) (thr : Bool) (started : Option (List Nibble))
    (s : State) : (s.round req thr started).pending = s.pending := by
  unfold State.round
  split
  · split
    · rfl
    · split
      · rw [State.recordStarts_pending, State.beforeWin_win_pending]
      · exact s.recordStarts_pending ..
  · rfl

@[simp] theorem State.strayStart_pending (started : List Nibble) (s : State) :
    (s.strayStart started).pending = s.pending := by
  unfold State.strayStart
  split
  · extract_lets sender turned starts
    split
    · split
      · exact State.assertMrs_pending _
      · rfl
    · split
      · rw [State.violated_eq]; rfl
      · rfl
  · rfl

@[simp] theorem State.endTransfer_pending (rest : List Nibble) (mrs : Bool) (s : State) :
    (s.endTransfer rest mrs).pending = s.pending := by
  unfold State.endTransfer
  split
  · rfl
  · split
    · extract_lets nibbles turn src off fits barred joined
      split
      · exact State.assertMrs_pending _
      · split
        · exact State.openWindow_pending _
        · split
          · rw [State.choose_pending, State.abortOwn_pending]
          · rfl
    · rfl

@[simp] theorem State.closeAs_pending (drive : Drive) (o : OpenRecord) (ack : BitVec 8) (flt : Bool)
    (s : State) : (s.closeAs drive o ack flt).pending = s.pending := by
  unfold State.closeAs
  split
  · split
    · exact s.abortOwn_pending true
    · rfl
  · split
    · exact s.selfDrop_pending ..
    · split
      · split
        · exact s.abortOwn_pending true
        · rfl
      · exact s.commitMember_pending ..
  · split
    · rfl
    · split
      · exact s.abortOwn_pending true
      · split
        · exact s.commitJoin_pending ack
        · exact s.endOwn_pending _

@[simp] theorem State.closeWindow_pending (ack : BitVec 8) (flt : Bool) (s : State) :
    (s.closeWindow ack flt).pending = s.pending := by
  unfold State.closeWindow
  split
  · rw [State.choose_pending, State.openWindow_pending, State.closeAs_pending]
  · rfl

@[simp] theorem State.restartBegin_pending (s : State) : s.restartBegin.pending = s.pending := by
  unfold State.restartBegin
  split
  · rw [State.choose_pending, State.abortOwn_pending]
  · rfl

@[simp] theorem State.restartEnd_pending (s : State) : s.restartEnd.pending = s.pending := by
  unfold State.restartEnd
  split <;> rfl

@[simp] theorem State.strayAck_pending (s : State) : s.strayAck.pending = s.pending := by
  unfold State.strayAck
  split
  · exact s.assertMrs_pending
  · rfl

/-! ### The queue under the turns of the engine -/

@[simp] theorem State.build_pending (s : State) : s.build.pending = s.pending := by
  unfold State.build
  split
  · split <;> rfl
  · rfl

@[simp] theorem State.copyView_pending (s : State) : s.copyView.pending = s.pending := by
  unfold State.copyView
  split
  · split <;> rfl
  · rfl

@[simp] theorem State.findStep_pending (s : State) : s.findStep.pending = s.pending := by
  unfold State.findStep
  split
  · next scan running =>
    split
    · split
      · next slot =>
        obtain ⟨-, -, -, pending, -⟩ := s.scanSlot_frame scan ⟨scan.next, slot⟩
        exact pending
      · exact s.endScan_pending ..
    · rfl
  · rfl

/-! ### Every command -/

theorem effectOf_lockLoss_pending (s : State) : (effectOf .lockLoss s).pending = s.pending := by
  by_cases locked : s.bus.locked = true
  · obtain ⟨-, pending, -, -⟩ := s.lockLost_frame
    rw [effectOf, exec_lockLoss locked]
    exact (s.lockLost.endOwn_pending _).trans pending
  · exact congrArg State.pending (if_neg locked)

theorem effectOf_syncTimerExpiry_pending (s : State) :
    (effectOf .syncTimerExpiry s).pending = s.pending := by
  unfold effectOf exec execSyncTimerExpiry
  dsimp only
  split
  · split
    · exact s.enterLeaving_pending _
    · rfl
  · rfl

/-- No command writes the queue: only the step takes from it. -/
theorem effectOf_pending (c : Instr) (s : State) : (effectOf c s).pending = s.pending := by
  cases c with
  | pinReset | resetRelease | priChange | mrsRelease | spiFrameEnd => rfl
  | lockGain =>
    show (State.pending (if s.bus.locked then s else _)) = s.pending
    split <;> rfl
  | lockLoss => exact effectOf_lockLoss_pending s
  | quietBus =>
    show (State.pending (if s.bus.locked && !s.bus.inStep then _ else s)) = s.pending
    split <;> rfl
  | start | leave | withdraw | reinit | controlOther | siteWrite | eventsClear | evmaskWrite | viewSel
  | findGo | requestSubmit => exact s.write_pending _ _
  | registerWrite event value =>
    cases event with
    | select => exact s.select_pending
    | byte => exact s.spiByte_pending value
    | write addr => exact s.write_pending addr value
    | read addr => exact s.read_pending addr
  | completionTake => exact s.read_pending 0x13#7
  | noticeTake => exact s.read_pending 0x14#7
  | viewPortRead => exact s.read_pending 0x16#7
  | findPortRead => exact s.read_pending 0x1D#7
  | auditPortRead => exact s.read_pending 0x1E#7
  | eventsRead high => exact s.reach_pending true (eventsAddr high)
  | commitDigestRead offset => exact s.reach_pending true (commitAddr offset)
  | arbitrationRound req thr started => exact s.round_pending req thr started
  | transferEnd rest mrs => exact s.endTransfer_pending rest mrs
  | checkWindowClose ack flt => exact s.closeWindow_pending ack flt
  | restartEpisodeBegin => exact s.restartBegin_pending
  | restartEpisodeEnd => exact s.restartEnd_pending
  | application => exact s.application_pending
  | snapshotBuild => exact s.build_pending
  | viewCopy => exact s.copyView_pending
  | findStep => exact s.findStep_pending
  | syncTimerExpiry => exact effectOf_syncTimerExpiry_pending s
  | recordStartWithoutRound started => exact s.strayStart_pending started
  | ackOrFltOutOfWindow => exact s.strayAck_pending

/-- Settles O2: each command answers its effect, and no effect writes the queue. -/
theorem everyCommandCompletesAndKeepsTheQueue :
    Obligations.EveryCommandCompletesAndKeepsTheQueue :=
  fun c s => ⟨effectOf c s, exec_eq_effectOf c s, effectOf_pending c s⟩

end Sys2Proof.Machine
end

section
/-!
PROOFS. Reset has the invariants that steps keep (Tables 14, 28, 39): one lemma for each block, then the
invariants from the blocks.
-/
namespace Sys2Proof.Machine

/-! ### The blocks at reset -/

theorem HostPort.reset_reservedRead0 : HostPort.reset.reservedRead0 := by
  unfold HostPort.reservedRead0
  decide

/-- No frame is in progress and SDO is not driven (R179, R186). -/
theorem HostPort.reset_spiInOrder : HostPort.reset.spiInOrder :=
  ⟨rfl, fun frame => absurd rfl frame⟩

theorem BusUnit.reset_bounded : BusUnit.reset.Bounded := ⟨Nat.zero_le _, Nat.zero_le _⟩

/-- No window is in progress and the apply queue is empty, so no record is numbered or acknowledged. -/
theorem BusUnit.reset_recordsFormed : BusUnit.reset.recordsFormed :=
  ⟨fun _ window => (nomatch window), fun _ queued => absurd queued List.not_mem_nil⟩

/-- No window, no record in transfer, MRS released (R60). -/
theorem BusUnit.reset_linesInStep : BusUnit.reset.LinesInStep :=
  ⟨fun window => absurd rfl window, fun transfer => absurd rfl transfer, fun mrs => nomatch mrs⟩

/-! ### The whole station at reset -/

theorem State.reset_listsBounded : State.reset.listsBounded :=
  State.reset.listsBounded_iff.mpr
    ⟨BusUnit.reset_bounded, Nat.zero_le _, Engine.reset_bounded, Nat.zero_le _⟩

/-- A station in CONFIG is no member, and reset leaves it nothing of the group (Table 28). -/
theorem State.reset_inOrder : State.reset.InOrder where
  outsider _ := ⟨.inl rfl, rfl, rfl, rfl, rfl, rfl, rfl, rfl, rfl⟩
  member isMember := nomatch isMember
  lines := BusUnit.reset_linesInStep

/-- Settles O54: each invariant by what the reset of its block leaves. -/
theorem resetHasTheInvariants : Obligations.ResetHasTheInvariants := by
  obtain ⟨outsider, takesPart⟩ := State.reset.inOrder_iff.mp State.reset_inOrder
  have digest : State.reset.digestFollows := rfl
  have places : State.reset.placesInStep :=
    State.reset.placesInStep_iff.mpr RequestUnit.reset_placesInStep
  have nothing : State.reset.choose = State.reset := State.choose_of_idle_state _ (.inl rfl)
  exact ⟨HostPort.reset_reservedRead0, digest, places, State.reset_listsBounded,
    BusUnit.reset_recordsFormed, SlotsFormed.empty, outsider, takesPart, StandingInOrder.allAbsent,
    HostPort.reset_spiInOrder, Engine.reset_inStep, nothing⟩

end Sys2Proof.Machine
end
